-- ==== Sys2Proof/Word.lean ====
section
/-! DEFINITION. The fixed widths of nibble_packer (spec/00_scope.md R8, spec/10_state.md R40). Every value is
unsigned (R11); a name here says what the spec uses the width for. -/

namespace Sys2Proof

/-- A register data word, 32 bits (R8). -/
abbrev Word := BitVec 32

/-- A wire byte or a pixel sample, 8 bits (R8). -/
abbrev Byte := BitVec 8

/-- A quantised sample, 4 bits (R8). -/
abbrev Nibble := BitVec 4

/-- A geometry field `x0`, `y0`, `width` or `height`, 16 bits (R8). -/
abbrev Half := BitVec 16

/-- A pixel-write coordinate, 17 bits (R8, R67). -/
abbrev Coord := BitVec 17

/-- A byte address of the register port, 6 bits (R8, R60). -/
abbrev Addr := BitVec 6

end Sys2Proof
end

