-- ==== Sys2Proof/Syntax.lean ====
section
/-! DEFINITION. The instructions: one constructor per row of spec/opcode_table.json. An instruction of this hardware
is a command word that the HOST writes to CTRL (spec/30_encoding.md R90, R91). The operand of every row but SRST is
IE, bit 8 of the same word (spec/43_control.md R205); a command's data operands are registers (R90). -/

namespace Sys2Proof

/-- The command words of spec/opcode_table.json, in its order. -/
inductive Instr where
  /-- CMD 0x0, not a command: writes IE only (R204). -/
  | nop (ie : Bool)
  /-- CMD 0x1 (R185). -/
  | pack (ie : Bool)
  /-- CMD 0x2 (R186). -/
  | unpack (ie : Bool)
  /-- CMD 0x3 (R121). -/
  | encHeader (ie : Bool)
  /-- CMD 0x4 (R142). -/
  | encRecord (ie : Bool)
  /-- CMD 0x5 (R123). -/
  | decHeader (ie : Bool)
  /-- CMD 0x6 (R147). -/
  | decRecord (ie : Bool)
  /-- CMD 0x7, a reserved code (R92, R226). -/
  | reserved7 (ie : Bool)
  /-- CMD 0x8, a reserved code (R92, R226). -/
  | reserved8 (ie : Bool)
  /-- CMD 0x9, a reserved code (R92, R226). -/
  | reserved9 (ie : Bool)
  /-- CMD 0xA, a reserved code (R92, R226). -/
  | reservedA (ie : Bool)
  /-- CMD 0xB, a reserved code (R92, R226). -/
  | reservedB (ie : Bool)
  /-- CMD 0xC, a reserved code (R92, R226). -/
  | reservedC (ie : Bool)
  /-- CMD 0xD, a reserved code (R92, R226). -/
  | reservedD (ie : Bool)
  /-- CMD 0xE, a reserved code (R92, R226). -/
  | reservedE (ie : Bool)
  /-- CMD 0xF, a reserved code (R92, R226). -/
  | reservedF (ie : Bool)
  /-- Bit 31 = 1, whatever the other bits hold: soft reset (R93, R203). -/
  | srst
  deriving DecidableEq, Repr

end Sys2Proof
end

