-- ==== Sys2Proof/WellFormed.lean ====
section
/-! DEFINITION. Well-formedness. The one operand an instruction carries is a Boolean bit, so every term of Instr is
well formed. What can be ill formed is a command WORD: one that holds a 1 in a bit the block ignores. Such a word is
legal on the register port (spec/30_encoding.md R93) and decodes; it is only not the word an encoder writes. -/

namespace Sys2Proof

/-- The instruction has an encoding: true of each, since IE takes both values in every row (R90, R205). -/
def Instr.wf (i : Instr) : Bool :=
  match i with
  | .nop _ => true
  | .pack _ => true
  | .unpack _ => true
  | .encHeader _ => true
  | .encRecord _ => true
  | .decHeader _ => true
  | .decRecord _ => true
  | .reserved7 _ => true
  | .reserved8 _ => true
  | .reserved9 _ => true
  | .reservedA _ => true
  | .reservedB _ => true
  | .reservedC _ => true
  | .reservedD _ => true
  | .reservedE _ => true
  | .reservedF _ => true
  | .srst => true

/-- Bits [7:4], reserved and ignored (R90, R93), are 0. -/
def lowReservedClear (w : Word) : Bool := w.extractLsb' 4 4 == 0#4

/-- Bits [30:9], reserved and ignored (R90, R93), are 0. -/
def highReservedClear (w : Word) : Bool := w.extractLsb' 9 22 == 0#22

/-- When bit 31 is 1, the rest of the word, which is discarded (R93), is 0. -/
def srstAlone (w : Word) : Bool := !w.getLsbD 31 || w == 0x80000000#32

/-- The word holds no 1 in a bit that the block ignores or discards: the words `encode` writes. -/
def canonicalWord (w : Word) : Bool := lowReservedClear w && highReservedClear w && srstAlone w

end Sys2Proof
end

