-- ==== Sys2Proof/Decode.lean ====
section
/-! DEFINITION. Reading a command word and writing one (spec/30_encoding.md R90 to R93, spec/opcode_table.json). -/

namespace Sys2Proof

/-- CMD, bits [3:0] (R90). -/
def cmdField (w : Word) : Nibble := w.extractLsb' 0 4

/-- IE, bit 8 (R90). -/
def ieField (w : Word) : Bool := w.getLsbD 8

/-- SRST, bit 31 (R90). -/
def srstField (w : Word) : Bool := w.getLsbD 31

/-- The instruction a word written to CTRL is (R90 to R93, R200). SRST is tested first and wins over every other
field; the reserved bits [7:4] and [30:9] are not looked at. CMD is read bit by bit, bit 3
first, so that each of its sixteen values has an arm of its own and every word has a meaning. -/
def decode (w : Word) : Instr :=
  if srstField w then .srst
  else match (cmdField w).getLsbD 3, (cmdField w).getLsbD 2, (cmdField w).getLsbD 1, (cmdField w).getLsbD 0 with
    | false, false, false, false => .nop (ieField w)
    | false, false, false, true => .pack (ieField w)
    | false, false, true, false => .unpack (ieField w)
    | false, false, true, true => .encHeader (ieField w)
    | false, true, false, false => .encRecord (ieField w)
    | false, true, false, true => .decHeader (ieField w)
    | false, true, true, false => .decRecord (ieField w)
    | false, true, true, true => .reserved7 (ieField w)
    | true, false, false, false => .reserved8 (ieField w)
    | true, false, false, true => .reserved9 (ieField w)
    | true, false, true, false => .reservedA (ieField w)
    | true, false, true, true => .reservedB (ieField w)
    | true, true, false, false => .reservedC (ieField w)
    | true, true, false, true => .reservedD (ieField w)
    | true, true, true, false => .reservedE (ieField w)
    | true, true, true, true => .reservedF (ieField w)

/-- Why something is not a command word. -/
inductive DecodeError where
  /-- The register write does not select CTRL, so it carries data and no command (R61, R62). -/
  | notCtrl
  /-- More than 32 bits: "There is one command word format and one length (32 bits)" (R90). -/
  | notOneWord
  deriving DecidableEq, Repr

/-- `addr[5:2]`, which selects the register; `addr[1:0]` is ignored (spec/20_memory.md R61). -/
def regSelect (a : Addr) : Nibble := a.extractLsb' 2 4

/-- The instruction that the register write `RegWrite(a, d)` is: a command word when `a` selects CTRL (offset 0x00,
R22, R61), and refused by name otherwise. -/
def decodeWrite (a : Addr) (d : Word) : Except DecodeError Instr :=
  if regSelect a = 0x0#4 then .ok (decode d) else .error .notCtrl

/-- The 32-bit word whose low `nbits` bits are those of `w` and whose other bits are 0. -/
def tableWord (nbits w : Nat) : Word := BitVec.ofNat 32 (w % 2 ^ nbits)

/-- A command word given as `nbits` bits of a number, refused by name when it is longer than a command word. -/
def decodeBits (nbits w : Nat) : Except DecodeError Instr :=
  if nbits ≤ 32 then decodeWrite 0#6 (tableWord nbits w) else .error .notOneWord

/-- The instruction the decoder reads from a row of spec/opcode_table.json; none where it refuses. -/
def decodeTableWord (nbits w : Nat) : Option Instr :=
  match decodeBits nbits w with
  | .ok i => some i
  | .error _ => none

/-- The command word with the given CMD and IE, SRST = 0 and every reserved bit 0 (R90). That an encoder writes 0
into the ignored bits is the model's choice (log 7). -/
def commandWord (cmd : Nibble) (ie : Bool) : Word :=
  (0#1 ++ 0#22 ++ BitVec.ofBool ie ++ 0#4 ++ cmd : BitVec (1 + 22 + 1 + 4 + 4))

/-- The word of an instruction (R90, R91). -/
def encode (i : Instr) : Word :=
  match i with
  | .nop ie => commandWord 0x0#4 ie
  | .pack ie => commandWord 0x1#4 ie
  | .unpack ie => commandWord 0x2#4 ie
  | .encHeader ie => commandWord 0x3#4 ie
  | .encRecord ie => commandWord 0x4#4 ie
  | .decHeader ie => commandWord 0x5#4 ie
  | .decRecord ie => commandWord 0x6#4 ie
  | .reserved7 ie => commandWord 0x7#4 ie
  | .reserved8 ie => commandWord 0x8#4 ie
  | .reserved9 ie => commandWord 0x9#4 ie
  | .reservedA ie => commandWord 0xA#4 ie
  | .reservedB ie => commandWord 0xB#4 ie
  | .reservedC ie => commandWord 0xC#4 ie
  | .reservedD ie => commandWord 0xD#4 ie
  | .reservedE ie => commandWord 0xE#4 ie
  | .reservedF ie => commandWord 0xF#4 ie
  | .srst => 0x80000000#32

/-- The "mask" of the instruction's row of spec/opcode_table.json. -/
def tableMask (i : Instr) : Word :=
  match i with
  | .nop _ => 0x8000000F#32
  | .pack _ => 0x8000000F#32
  | .unpack _ => 0x8000000F#32
  | .encHeader _ => 0x8000000F#32
  | .encRecord _ => 0x8000000F#32
  | .decHeader _ => 0x8000000F#32
  | .decRecord _ => 0x8000000F#32
  | .reserved7 _ => 0x8000000F#32
  | .reserved8 _ => 0x8000000F#32
  | .reserved9 _ => 0x8000000F#32
  | .reservedA _ => 0x8000000F#32
  | .reservedB _ => 0x8000000F#32
  | .reservedC _ => 0x8000000F#32
  | .reservedD _ => 0x8000000F#32
  | .reservedE _ => 0x8000000F#32
  | .reservedF _ => 0x8000000F#32
  | .srst => 0x80000000#32

/-- The "match" of the instruction's row of spec/opcode_table.json. -/
def tableMatch (i : Instr) : Word :=
  match i with
  | .nop _ => 0x00000000#32
  | .pack _ => 0x00000001#32
  | .unpack _ => 0x00000002#32
  | .encHeader _ => 0x00000003#32
  | .encRecord _ => 0x00000004#32
  | .decHeader _ => 0x00000005#32
  | .decRecord _ => 0x00000006#32
  | .reserved7 _ => 0x00000007#32
  | .reserved8 _ => 0x00000008#32
  | .reserved9 _ => 0x00000009#32
  | .reservedA _ => 0x0000000A#32
  | .reservedB _ => 0x0000000B#32
  | .reservedC _ => 0x0000000C#32
  | .reservedD _ => 0x0000000D#32
  | .reservedE _ => 0x0000000E#32
  | .reservedF _ => 0x0000000F#32
  | .srst => 0x80000000#32

end Sys2Proof
end

