-- ==== Sys2Proof/Config.lean ====
section
/-! DEFINITION. What is fixed for one build of the hardware: the parameter EXTENT_MODE (spec/00_scope.md R5) and
the constants MAX_W, MAX_H and SUPPORTED_VERSION (R6, R7). -/

namespace Sys2Proof

/-- The two values of the build-time parameter EXTENT_MODE (R5): how the decoder reads `width` and `height`. -/
inductive ExtentMode where
  /-- `width` and `height` are the size of the record, measured from its origin. -/
  | size
  /-- `width` and `height` are exclusive upper bounds of the scan, measured from 0. -/
  | absolute
  deriving DecidableEq, Repr

namespace Config

/-- "The default, and the value this spec calls 'the hardware', is `SIZE`" (R5). The model carries the mode in
State, so that a statement holds for a given mode (log 2). -/
def defaultExtentMode : ExtentMode := .size

/-- MAX_W, the widest source image the encoder accepts (R6). -/
def maxW : Nat := 960

/-- MAX_H, the tallest source image the encoder accepts (R6). -/
def maxH : Nat := 540

/-- SUPPORTED_VERSION, the only header version the decoder accepts (R7). -/
def supportedVersion : Byte := 0x01

end Config

end Sys2Proof
end

