-- ==== Sys2Proof/Machine/State.lean ====
section
/-! DEFINITION. The machine's state as plain data: the registers (spec/10_state.md R22 to R38), the hidden state
(R39, R40), the four streams (spec/20_memory.md R64 to R67), the build parameter EXTENT_MODE (spec/00_scope.md R5) and
the HOST's side of the interface. INVENTORY.md lists each field with its width and reset value. -/

namespace Sys2Proof.Machine

/-- The phase `h.fsm` (R39). -/
inductive Phase where
  | idle
  | encHdr
  | encGeom
  | encPix
  | decHdr
  | decGeom
  | decPix
  | error
  deriving DecidableEq, Repr

/-- The error codes STATUS.ERR can hold (spec/60_exceptions.md R220). Codes 6 and 7 are never produced and have no
constructor. -/
inductive ErrCode where
  | none
  | unsupportedVersion
  | truncatedStream
  | invalidGeometry
  | dimensionTooLarge
  | illegalCommand
  deriving DecidableEq, Repr

/-- An element of BIN: a byte, or `End`, "the stream has no more bytes" (R64). -/
inductive Token where
  | byte (b : Byte)
  | endOfStream
  deriving DecidableEq, Repr

/-- A record `(x, y, v)` of POUT (R67). -/
structure PixelWrite where
  x : Coord
  y : Coord
  v : Byte
  deriving DecidableEq, Repr

/-- The registers of the register map, by name (R22). `reserved` is any of the offsets 0x28 to 0x3C (R38). -/
inductive Reg where
  | ctrl
  | status
  | hdrVersion
  | hdrIdent
  | hdrSleep
  | geomXY
  | geomWH
  | dpOperand
  | dpResult
  | payLen
  | reserved
  deriving DecidableEq, Repr

/-- One atomic action of the HOST (spec/00_scope.md R9, spec/20_memory.md R60, R64 to R67, R76; the reset input is
spec/70_reset_and_hazards.md R251). DESIGN CHOICE, unsafe (log 15): the spec asks the HOST to drain or replace BIN and PIN
after an error or a reset (R265, R76) and names no operation for it; here no HOST action takes anything out of BIN or PIN
or replaces it, the HOST appends only, and what stands there leaves through the commands that read it. -/
inductive HostAction where
  /-- `RegWrite(addr, data)` (R60). -/
  | regWrite (addr : Addr) (data : Word)
  /-- `RegRead(addr)` (R60). -/
  | regRead (addr : Addr)
  /-- Append a token at BIN's tail (R64). -/
  | binAppend (t : Token)
  /-- Append a sample at PIN's tail (R65). -/
  | pinAppend (p : Byte)
  /-- Read the next byte of BOUT (R66). -/
  | boutTake
  /-- Read the next record of POUT (R67). -/
  | poutTake
  /-- The reset input, "one atomic HOST action" (R251). -/
  | resetPin
  deriving DecidableEq, Repr

/-- One place in the total order of HOST actions and BLOCK steps (R73). The order is the model's own state (log 1). -/
inductive Turn where
  /-- The HOST acts. -/
  | host (a : HostAction)
  /-- The BLOCK may step. -/
  | block
  /-- The HOST repeats RD STATUS until BUSY = 0, the pseudo-statement WAIT (spec/30_encoding.md R103, log 4). -/
  | wait
  deriving DecidableEq, Repr

/-- The stored fields of the ten registers (R22 to R37). STATUS.STATE, STATUS.BUSY, CTRL.CMD and CTRL.SRST are not
stored (R23, R25), and a reserved bit has no storage (R38). -/
structure Regs where
  /-- CTRL.IE (R23). -/
  ie : Bool
  /-- STATUS.ERR (R26). -/
  err : ErrCode
  /-- STATUS.EOS (R27). -/
  eos : Bool
  /-- STATUS.DONE (R28). -/
  done : Bool
  /-- STATUS.CMD_DROP (R29). -/
  cmdDrop : Bool
  /-- HDR_VERSION.VERSION (R30). -/
  hdrVersion : Byte
  /-- HDR_IDENT.IDENT (R31). -/
  hdrIdent : Word
  /-- HDR_SLEEP.SLEEP (R32). -/
  hdrSleep : Word
  /-- GEOM_XY.X0 (R33). -/
  x0 : Half
  /-- GEOM_XY.Y0 (R33). -/
  y0 : Half
  /-- GEOM_WH.W (R34). -/
  w : Half
  /-- GEOM_WH.H (R34). -/
  ht : Half
  /-- DP_OPERAND.PE (R35). -/
  pe : Byte
  /-- DP_OPERAND.PO (R35). -/
  po : Byte
  /-- DP_RESULT (R36). -/
  dpResult : Word
  /-- PAY_LEN (R37). -/
  payLen : Word
  deriving DecidableEq, Repr

/-- The hidden state (R40). -/
structure Hidden where
  fsm : Phase
  idx : BitVec 4
  buf : Vector Byte 9
  hold : Nibble
  col : Half
  row : Half
  dx : Coord
  dy : Coord
  xs : Coord
  xe : Coord
  ye : Coord
  deriving DecidableEq, Repr

/-- The four streams, each with its head first (R64 to R67). BOUT and POUT hold all that the BLOCK has appended; what
the HOST has read of them is counted in `HostSide` (log 5). -/
structure Streams where
  bin : List Token
  pin : List Byte
  bout : List Byte
  pout : List PixelWrite
  deriving DecidableEq, Repr

/-- The HOST's side of the interface. These fields are the model's own, not the spec's. -/
structure HostSide where
  /-- What the HOST still does and where BLOCK steps may fall between, first turn first (log 1). -/
  agenda : List Turn
  /-- What the HOST's register reads returned, oldest first (log 4). -/
  readData : List Word
  /-- How many bytes of BOUT the HOST has read (log 5). -/
  boutTaken : Nat
  /-- How many records of POUT the HOST has read (log 5). -/
  poutTaken : Nat
  deriving DecidableEq, Repr

/-- The whole machine. -/
structure State where
  /-- EXTENT_MODE of this build (spec/00_scope.md R5); no action writes it (log 2). -/
  extentMode : ExtentMode
  regs : Regs
  h : Hidden
  io : Streams
  host : HostSide
  deriving DecidableEq, Repr

/-- Why the machine can stop. The hardware has no such stop: "It never stalls and never faults" (R60). -/
inductive Fault where
  /-- A phase is at a header or geometry byte past the record's last: ENC_HDR or DEC_HDR with h.idx above 8, ENC_GEOM
  or DEC_GEOM with h.idx above 7. Raised by the BLOCK's step there. No rule gives such a state an effect, and no run
  from reset meets one, so this is safe (log 6). -/
  | noSuchByte
  deriving DecidableEq, Repr

/-- Why an instruction can be refused. No arm of this model answers it. -/
inductive Refusal where
  /-- An instruction without a meaning yet, raised by `exec` alone. Safe: nothing is claimed of it. -/
  | notModelled (mnemonic : String)
  deriving DecidableEq, Repr

/-- The machine right after reset (R43, spec/70_reset_and_hazards.md R250). The streams are empty and the HOST has
nothing to do (log 1, log 9). -/
def State.reset : State where
  extentMode := Config.defaultExtentMode
  regs :=
    { ie := false, err := .none, eos := false, done := false, cmdDrop := false
      hdrVersion := 0x01, hdrIdent := 0, hdrSleep := 0
      x0 := 0, y0 := 0, w := 0, ht := 0, pe := 0, po := 0, dpResult := 0, payLen := 0 }
  h :=
    { fsm := .idle, idx := 0, buf := Vector.replicate 9 0, hold := 0, col := 0, row := 0
      dx := 0, dy := 0, xs := 0, xe := 0, ye := 0 }
  io := { bin := [], pin := [], bout := [], pout := [] }
  host := { agenda := [], readData := [], boutTaken := 0, poutTaken := 0 }

end Sys2Proof.Machine
end

