-- ==== Sys2Proof/Machine/Flags.lean ====
section
/-! DEFINITION. What the flags show: the codes of the phase and of the errors, the derived BUSY, the STATUS and CTRL
words and the interrupt output. There are no arithmetic condition codes (spec/10_state.md R41). -/

namespace Sys2Proof.Machine

/-- The code of `h.fsm` in STATUS.STATE (R39). -/
def Phase.code (p : Phase) : BitVec 3 :=
  match p with
  | .idle => 0
  | .encHdr => 1
  | .encGeom => 2
  | .encPix => 3
  | .decHdr => 4
  | .decGeom => 5
  | .decPix => 6
  | .error => 7

/-- The code of an error in STATUS.ERR (spec/60_exceptions.md R220). -/
def ErrCode.code (e : ErrCode) : BitVec 3 :=
  match e with
  | .none => 0
  | .unsupportedVersion => 1
  | .truncatedStream => 2
  | .invalidGeometry => 3
  | .dimensionTooLarge => 4
  | .illegalCommand => 5

/-- `BUSY = (h.fsm != IDLE) and (h.fsm != ERROR)` (R25). -/
def State.busy (s : State) : Bool := s.h.fsm != .idle && s.h.fsm != .error

/-- The STATUS word: STATE [2:0], BUSY [3], ERR [6:4], EOS [7], DONE [8], CMD_DROP [9], the rest 0 (R24). -/
def State.statusWord (s : State) : Word :=
  (0#22 ++ BitVec.ofBool s.regs.cmdDrop ++ BitVec.ofBool s.regs.done ++ BitVec.ofBool s.regs.eos
    ++ s.regs.err.code ++ BitVec.ofBool s.busy ++ s.h.fsm.code : BitVec (22 + 1 + 1 + 1 + 3 + 1 + 3))

/-- The CTRL word as it reads: `zext_32(IE) << 8` (R23, spec/43_control.md R205). -/
def State.ctrlWord (s : State) : Word := (BitVec.ofBool s.regs.ie).setWidth 32 <<< 8

/-- The interrupt output: `irq = CTRL.IE and (DONE or EOS or ERR != 0)` (R235). -/
def State.irq (s : State) : Bool := s.regs.ie && (s.regs.done || s.regs.eos || s.regs.err != .none)

end Sys2Proof.Machine
end

