-- ==== Sys2Proof/Machine/Operands.lean ====
section
/-! DEFINITION. The data functions of the three units: byte order and field assembly (spec/30_encoding.md R98), the
nibble packer (spec/42_nibble_packer.md R180 to R183), the header and geometry bytes (R120, R141), the decode window
and the payload length (spec/41_sub_image_framer.md R150, R151). -/

namespace Sys2Proof.Machine

/-! ### Byte order (R68, R98; the meaning of little-endian is log 8) -/

/-- `byte_k(v) = v[8k+7 : 8k]` (R98). -/
def byteK {n : Nat} (k : Nat) (v : BitVec n) : Byte := v.extractLsb' (8 * k) 8

/-- `le16(b0, b1)` (R98). -/
def le16 (b0 b1 : Byte) : Half := b0.setWidth 16 ||| (b1.setWidth 16 <<< 8)

/-- `le32(b0, b1, b2, b3)` (R98). -/
def le32 (b0 b1 b2 b3 : Byte) : Word :=
  b0.setWidth 32 ||| (b1.setWidth 32 <<< 8) ||| (b2.setWidth 32 <<< 16) ||| (b3.setWidth 32 <<< 24)

/-! ### The nibble packer -/

/-- The quantizer: `quant(p) = p[7:4]` (R180). -/
def quant (p : Byte) : Nibble := p.extractLsb' 4 4

/-- The reconstructor: `recon(n) = {n, 0b0000}` (R181). -/
def recon (n : Nibble) : Byte := n ++ 0#4

/-- `pack(p_even, p_odd) = (p_odd & 0xF0) | (p_even >> 4)` (R182). -/
def pack (pEven pOdd : Byte) : Byte := (pOdd &&& 0xF0#8) ||| (pEven >>> 4)

/-- The left pixel of `unpack(b)`: `(b & 0x0F) << 4`, computed in 8 bits (R183). -/
def unpackLeft (b : Byte) : Byte := (b &&& 0x0F#8) <<< 4

/-- The right pixel of `unpack(b)`: `b & 0xF0` (R183). -/
def unpackRight (b : Byte) : Byte := b &&& 0xF0#8

/-! ### Header and geometry bytes -/

/-- `hdr_byte(i)`, for `i` in 0..8 (R120); there is no other header byte. -/
def hdrByte (r : Regs) (i : Nat) : Option Byte :=
  match i with
  | 0 => some r.hdrVersion
  | 1 => some (byteK 0 r.hdrIdent)
  | 2 => some (byteK 1 r.hdrIdent)
  | 3 => some (byteK 2 r.hdrIdent)
  | 4 => some (byteK 3 r.hdrIdent)
  | 5 => some (byteK 0 r.hdrSleep)
  | 6 => some (byteK 1 r.hdrSleep)
  | 7 => some (byteK 2 r.hdrSleep)
  | 8 => some (byteK 3 r.hdrSleep)
  | _ => none

/-- `geom_byte(i)`, for `i` in 0..7 (R141); there is no other geometry byte. -/
def geomByte (r : Regs) (i : Nat) : Option Byte :=
  match i with
  | 0 => some (byteK 0 r.x0)
  | 1 => some (byteK 1 r.x0)
  | 2 => some (byteK 0 r.y0)
  | 3 => some (byteK 1 r.y0)
  | 4 => some (byteK 0 r.w)
  | 5 => some (byteK 1 r.w)
  | 6 => some (byteK 0 r.ht)
  | 7 => some (byteK 1 r.ht)
  | _ => none

/-- `h.buf[i] <- b` for a record of `len` bytes; there is no byte `i` when `i` is not below `len` (R124, R148). -/
def putByte (len i : Nat) (b : Byte) (buf : Vector Byte 9) : Option (Vector Byte 9) :=
  if i < len then some (buf.setIfInBounds i b) else none

/-! ### Window and payload length -/

/-- The decode scan window `(xs, xe, ys, ye)`, each 17 bits (R150). -/
structure Window where
  xs : Coord
  xe : Coord
  ys : Coord
  ye : Coord
  deriving DecidableEq, Repr

/-- `window(x0, y0, w, ht)` under each EXTENT_MODE (R150). -/
def scanWindow (m : ExtentMode) (x0 y0 w ht : Half) : Window :=
  match m with
  | .size =>
    { xs := x0.setWidth 17, xe := x0.setWidth 17 + w.setWidth 17
      ys := y0.setWidth 17, ye := y0.setWidth 17 + ht.setWidth 17 }
  | .absolute =>
    { xs := x0.setWidth 17, xe := w.setWidth 17, ys := y0.setWidth 17, ye := ht.setWidth 17 }

/-- `ceil_half(n) = (n + 1) >> 1` (spec/00_scope.md R11). -/
def ceilHalf (n : Nat) : Nat := (n + 1) / 2

/-- `bytes_per_row` (R151). -/
def bytesPerRow (v : Window) : Nat := if v.xs < v.xe then ceilHalf (v.xe.toNat - v.xs.toNat) else 0

/-- `rows` (R151). -/
def windowRows (v : Window) : Nat := if v.ys < v.ye then v.ye.toNat - v.ys.toNat else 0

/-- `pay_len(xs, xe, ys, ye)`, exact (R151), in the 32 bits of PAY_LEN (R37). -/
def payLenOf (v : Window) : Word := BitVec.ofNat 32 (bytesPerRow v * windowRows v)

end Sys2Proof.Machine
end

