-- ==== Sys2Proof/Machine/Ops.lean ====
section
/-! DEFINITION. The named operations that every meaning is written over: the stream primitives of spec/00_scope.md R12,
entering the error state (spec/60_exceptions.md R225) and leaving it by reset (R250), completing a command (R206),
issuing one (spec/43_control.md R200 to R202), and the register port (spec/20_memory.md R60 to R62). -/

namespace Sys2Proof.Machine

/-! ### Streams -/

/-- `BinPop()`: the head token and the state without it; none when BIN is empty (R12, R64). -/
def State.binPop (s : State) : Option (Token × State) :=
  match s.io.bin with
  | [] => none
  | t :: rest => some (t, { s with io.bin := rest })

/-- `PinPop()`: the head sample and the state without it; none when PIN is empty (R12, R65). -/
def State.pinPop (s : State) : Option (Byte × State) :=
  match s.io.pin with
  | [] => none
  | p :: rest => some (p, { s with io.pin := rest })

/-- `BoutPush(b)`: always succeeds (R12, R66). -/
def State.boutPush (s : State) (b : Byte) : State := { s with io.bout := s.io.bout ++ [b] }

/-- `PoutPush(x, y, v)`: always succeeds, and clips nothing (R12, R67). -/
def State.poutPush (s : State) (x y : Coord) (v : Byte) : State :=
  { s with io.pout := s.io.pout ++ [{ x := x, y := y, v := v }] }

/-! ### Ends of a command -/

/-- `finish()`: `STATUS.DONE <- 1; h.fsm <- IDLE` (R206). -/
def State.finish (s : State) : State := { s with regs.done := true, h.fsm := .idle }

/-- `raise Error(code)`: `STATUS.ERR <- code; h.fsm <- ERROR`, nothing undone and no other register changed (R225,
R228). This is taking an exception on this hardware: no vector and no saved state beyond ERR (R227, R232). -/
def State.raiseError (s : State) (code : ErrCode) : State := { s with regs.err := code, h.fsm := .error }

/-- `reset()`, the only way out of ERROR (R203, R232, R250): every register and every hidden element takes its reset
value. The streams are not touched (R252), nor the build parameter, nor the HOST's side (log 14). -/
def State.resetBlock (s : State) : State := { s with regs := State.reset.regs, h := State.reset.h }

/-! ### Issuing a command -/

/-- `CTRL.IE <- d[8]` (R205). -/
def State.setIe (s : State) (ie : Bool) : State := { s with regs.ie := ie }

/-- The common acceptance steps: `STATUS.DONE <- 0; STATUS.EOS <- 0` (R202). -/
def State.clearEnded (s : State) : State := { s with regs.done := false, regs.eos := false }

/-- A dropped command: `STATUS.CMD_DROP <- 1` and no other effect (R201). -/
def State.dropCommand (s : State) : State := { s with regs.cmdDrop := true }

/-- A CTRL write that issues a command: IE is set first (R200, R205); the command is dropped unless h.fsm is IDLE
(R201), and otherwise accepted, `body` being its command-specific part (R202). -/
def State.issue (s : State) (ie : Bool) (body : State → State) : State :=
  let s := s.setIe ie
  if s.h.fsm = .idle then body s.clearEnded else s.dropCommand

/-- Starting a multi-step command: `h.idx <- 0; h.fsm <- phase` (R121, R123, R147). -/
def State.startPhase (s : State) (p : Phase) : State := { s with h.idx := 0, h.fsm := p }

/-! ### The header and geometry index -/

/-- `h.idx <- h.idx + 1` (R122, R124, R143, R148). -/
def State.nextIdx (s : State) : State := { s with h.idx := s.h.idx + 1 }

/-- `h.buf[h.idx] <- b; h.idx <- h.idx + 1` for a record of `len` bytes (R124, R148); none when the record has no
byte h.idx. -/
def State.storeByte (s : State) (len : Nat) (b : Byte) : Option State :=
  match putByte len s.h.idx.toNat b s.h.buf with
  | none => none
  | some buf => some { s with h.buf := buf, h.idx := s.h.idx + 1 }

/-! ### Register port -/

/-- The register at `addr & 0x3C` (R22, R38, R61), `addr[5:2]` read bit by bit, bit 5 first. -/
def regAt (a : Addr) : Reg :=
  match (regSelect a).getLsbD 3, (regSelect a).getLsbD 2, (regSelect a).getLsbD 1, (regSelect a).getLsbD 0 with
  | false, false, false, false => .ctrl
  | false, false, false, true => .status
  | false, false, true, false => .hdrVersion
  | false, false, true, true => .hdrIdent
  | false, true, false, false => .hdrSleep
  | false, true, false, true => .geomXY
  | false, true, true, false => .geomWH
  | false, true, true, true => .dpOperand
  | true, false, false, false => .dpResult
  | true, false, false, true => .payLen
  | true, false, true, false => .reserved
  | true, false, true, true => .reserved
  | true, true, false, false => .reserved
  | true, true, false, true => .reserved
  | true, true, true, false => .reserved
  | true, true, true, true => .reserved

/-- The value a register reads as, each field in its place and each reserved bit 0 (R23, R24, R30 to R38, R99). -/
def State.regValue (s : State) (r : Reg) : Word :=
  match r with
  | .ctrl => s.ctrlWord
  | .status => s.statusWord
  | .hdrVersion => s.regs.hdrVersion.setWidth 32
  | .hdrIdent => s.regs.hdrIdent
  | .hdrSleep => s.regs.hdrSleep
  | .geomXY => s.regs.y0 ++ s.regs.x0
  | .geomWH => s.regs.ht ++ s.regs.w
  | .dpOperand => (s.regs.po ++ s.regs.pe).setWidth 32
  | .dpResult => s.regs.dpResult
  | .payLen => s.regs.payLen
  | .reserved => 0

/-- `RegRead(addr)` (R60): any offset, any time, no side effect (R62). -/
def State.regRead (s : State) (a : Addr) : Word := s.regValue (regAt a)

/-- Storing a word into an RW data register, masked to its defined fields (R62, R30 to R35). A register that is not
an RW data register is left alone. -/
def Regs.store (r : Regs) (n : Reg) (d : Word) : Regs :=
  match n with
  | .ctrl => r
  | .status => r
  | .hdrVersion => { r with hdrVersion := d.extractLsb' 0 8 }
  | .hdrIdent => { r with hdrIdent := d }
  | .hdrSleep => { r with hdrSleep := d }
  | .geomXY => { r with x0 := d.extractLsb' 0 16, y0 := d.extractLsb' 16 16 }
  | .geomWH => { r with w := d.extractLsb' 0 16, ht := d.extractLsb' 16 16 }
  | .dpOperand => { r with pe := d.extractLsb' 0 8, po := d.extractLsb' 8 8 }
  | .dpResult => r
  | .payLen => r
  | .reserved => r

/-- A write of an RW data register: ignored while BUSY = 1 (R62, R261). -/
def State.storeData (s : State) (n : Reg) (d : Word) : State :=
  if s.busy then s else { s with regs := s.regs.store n d }

/-- A write of STATUS: it clears CMD_DROP if `data[9] = 1`, and has no other effect (R29, R62). -/
def State.writeStatus (s : State) (d : Word) : State :=
  if d.getLsbD 9 then { s with regs.cmdDrop := false } else s

/-- `RegWrite(addr, data)` to a register other than CTRL (R62). A write to CTRL is a command word and does not come
here. -/
def State.writeOther (s : State) (n : Reg) (d : Word) : State :=
  match n with
  | .ctrl => s
  | .status => s.writeStatus d
  | .hdrVersion => s.storeData .hdrVersion d
  | .hdrIdent => s.storeData .hdrIdent d
  | .hdrSleep => s.storeData .hdrSleep d
  | .geomXY => s.storeData .geomXY d
  | .geomWH => s.storeData .geomWH d
  | .dpOperand => s.storeData .dpOperand d
  | .dpResult => s
  | .payLen => s
  | .reserved => s

/-! ### The HOST's side -/

/-- Append a token at BIN's tail (R64). -/
def State.binAppend (s : State) (t : Token) : State := { s with io.bin := s.io.bin ++ [t] }

/-- Append a sample at PIN's tail (R65). -/
def State.pinAppend (s : State) (p : Byte) : State := { s with io.pin := s.io.pin ++ [p] }

/-- The HOST reads the next byte of BOUT, in order from its head; with no byte left there is nothing to read (R66). -/
def State.boutTake (s : State) : State :=
  if s.host.boutTaken < s.io.bout.length then { s with host.boutTaken := s.host.boutTaken + 1 } else s

/-- The HOST reads the next record of POUT (R67). -/
def State.poutTake (s : State) : State :=
  if s.host.poutTaken < s.io.pout.length then { s with host.poutTaken := s.host.poutTaken + 1 } else s

/-- The word a register read returned reaches the HOST (R60). -/
def State.recordRead (s : State) (d : Word) : State := { s with host.readData := s.host.readData ++ [d] }

/-- What is left to do is `l`. -/
def State.withAgenda (s : State) (l : List Turn) : State := { s with host.agenda := l }

/-- The write of a command word to CTRL becomes the next turn. -/
def State.placeCommand (s : State) (w : Word) : State :=
  s.withAgenda (.host (.regWrite 0#6 w) :: s.host.agenda)

end Sys2Proof.Machine
end

