-- ==== Sys2Proof/Machine/HeaderMarshaller.lean ====
section
/-! DEFINITION. The header marshaller: ENC_HEADER and DEC_HEADER, their acceptance and their BLOCK steps
(spec/40_header_marshaller.md R120 to R126). -/

namespace Sys2Proof.Machine

/-- ENC_HEADER's acceptance: `h.idx <- 0; h.fsm <- ENC_HDR` (R121). -/
def encHeaderBody (s : State) : State := s.startPhase .encHdr

/-- ENC_HEADER (R121). -/
def execEncHeader (ie : Bool) (s : State) : Host.Outcome State Fault Refusal := .next (s.issue ie encHeaderBody)

/-- After byte 8 the command completes (R122). -/
def encHdrEnd (s : State) : State := if s.h.idx = 9 then s.finish else s

/-- One BLOCK step in phase ENC_HDR (R122). -/
def stepEncHdr (s : State) : Host.Outcome State Fault Refusal :=
  match hdrByte s.regs s.h.idx.toNat with
  | none => .fault .noSuchByte
  | some b => .next (encHdrEnd (s.boutPush b).nextIdx)

/-- DEC_HEADER's acceptance: `h.idx <- 0; h.fsm <- DEC_HDR` (R123). -/
def decHeaderBody (s : State) : State := s.startPhase .decHdr

/-- DEC_HEADER (R123). -/
def execDecHeader (ie : Bool) (s : State) : Host.Outcome State Fault Refusal := .next (s.issue ie decHeaderBody)

/-- The three header registers take the nine bytes of h.buf (R126). -/
def State.loadHeader (s : State) : State :=
  { s with
    regs.hdrVersion := s.h.buf[0]
    regs.hdrIdent := le32 s.h.buf[1] s.h.buf[2] s.h.buf[3] s.h.buf[4]
    regs.hdrSleep := le32 s.h.buf[5] s.h.buf[6] s.h.buf[7] s.h.buf[8] }

/-- `complete_header()`: the registers are loaded even when the version is rejected (R126). -/
def completeHeader (s : State) : State :=
  if s.h.buf[0] = Config.supportedVersion then s.loadHeader.finish
  else s.loadHeader.raiseError .unsupportedVersion

/-- After the ninth byte the header is complete (R124). -/
def decHdrEnd (s : State) : State := if s.h.idx = 9 then completeHeader s else s

/-- One BLOCK step in phase DEC_HDR on `Byte(b)`, already popped (R124). -/
def stepDecHdrByte (b : Byte) (s : State) : Host.Outcome State Fault Refusal :=
  match s.storeByte 9 b with
  | none => .fault .noSuchByte
  | some t => .next (decHdrEnd t)

/-- One BLOCK step in phase DEC_HDR on `End`, already popped: TRUNCATED_STREAM, the header registers unchanged (R125). -/
def stepDecHdrEnd (s : State) : Host.Outcome State Fault Refusal := .next (s.raiseError .truncatedStream)

end Sys2Proof.Machine
end

