-- ==== Sys2Proof/Machine/SubImageFramer.lean ====
section
/-! DEFINITION. The sub-image framer: ENC_RECORD and DEC_RECORD, their acceptance and their BLOCK steps
(spec/41_sub_image_framer.md R140 to R153). -/

namespace Sys2Proof.Machine

/-! ### ENC_RECORD -/

/-- ENC_RECORD's acceptance once both checks have passed (R142). -/
def State.startRecord (s : State) : State :=
  { s with
    regs.payLen := BitVec.ofNat 32 (s.regs.w.toNat / 2 * s.regs.ht.toNat)
    h.idx := 0
    h.col := 0
    h.row := 0
    h.hold := 0
    h.fsm := .encGeom }

/-- ENC_RECORD's acceptance: the size check first, then the even width (R142, R229). -/
def encRecordBody (s : State) : State :=
  if s.regs.w.toNat > Config.maxW ∨ s.regs.ht.toNat > Config.maxH then s.raiseError .dimensionTooLarge
  else if s.regs.w.getLsbD 0 then s.raiseError .invalidGeometry
  else s.startRecord

/-- ENC_RECORD (R142). -/
def execEncRecord (ie : Bool) (s : State) : Host.Outcome State Fault Refusal := .next (s.issue ie encRecordBody)

/-- `end_geometry_encode()` (R144). -/
def endGeometryEncode (s : State) : State :=
  if s.regs.w = 0 ∨ s.regs.ht = 0 then s.finish else { s with h.fsm := .encPix }

/-- After the eighth descriptor byte the geometry is complete (R143). -/
def encGeomEnd (s : State) : State := if s.h.idx = 8 then endGeometryEncode s else s

/-- One BLOCK step in phase ENC_GEOM (R143). -/
def stepEncGeom (s : State) : Host.Outcome State Fault Refusal :=
  match geomByte s.regs s.h.idx.toNat with
  | none => .fault .noSuchByte
  | some b => .next (encGeomEnd (s.boutPush b).nextIdx)

/-- The sample of a step in phase ENC_PIX: held at an even column, and at an odd column emitted with the held one as
`{quant(p), h.hold}` (R145). -/
def encSample (p : Byte) (s : State) : State :=
  if s.h.col.getLsbD 0 then s.boutPush (quant p ++ s.h.hold) else { s with h.hold := quant p }

/-- The next column, and at the row's end the next row, and after the last row the end of the command (R145). -/
def encAdvance (s : State) : State :=
  let s := { s with h.col := s.h.col + 1 }
  if s.h.col = s.regs.w then
    let s := { s with h.col := 0, h.row := s.h.row + 1 }
    if s.h.row = s.regs.ht then s.finish else s
  else s

/-- One BLOCK step in phase ENC_PIX on the sample `p`, already popped (R145). -/
def stepEncPix (p : Byte) (s : State) : Host.Outcome State Fault Refusal := .next (encAdvance (encSample p s))

/-! ### DEC_RECORD -/

/-- DEC_RECORD's acceptance: `h.idx <- 0; h.fsm <- DEC_GEOM` (R147). -/
def decRecordBody (s : State) : State := s.startPhase .decGeom

/-- DEC_RECORD (R147). -/
def execDecRecord (ie : Bool) (s : State) : Host.Outcome State Fault Refusal := .next (s.issue ie decRecordBody)

/-- The geometry registers take the eight bytes of h.buf (R148). -/
def State.loadGeometry (s : State) : State :=
  { s with
    regs.x0 := le16 s.h.buf[0] s.h.buf[1]
    regs.y0 := le16 s.h.buf[2] s.h.buf[3]
    regs.w := le16 s.h.buf[4] s.h.buf[5]
    regs.ht := le16 s.h.buf[6] s.h.buf[7] }

/-- The window of the record in the geometry registers (R148, R150). -/
def State.window (s : State) : Window := scanWindow s.extentMode s.regs.x0 s.regs.y0 s.regs.w s.regs.ht

/-- PAY_LEN and the scan take the window's values (R148). -/
def State.startScan (s : State) : State :=
  let v := s.window
  { s with
    regs.payLen := payLenOf v
    h.xs := v.xs
    h.xe := v.xe
    h.ye := v.ye
    h.dx := v.xs
    h.dy := v.ys }

/-- The end of the eighth descriptor byte's step: registers, window, and either the end of an empty record or its
payload (R148). -/
def completeGeometry (s : State) : State :=
  let s := s.loadGeometry.startScan
  if s.regs.payLen = 0 then s.finish else { s with h.fsm := .decPix }

/-- After the eighth byte the geometry is complete (R148). -/
def decGeomEnd (s : State) : State := if s.h.idx = 8 then completeGeometry s else s

/-- One BLOCK step in phase DEC_GEOM on `Byte(b)`, already popped (R148). -/
def stepDecGeomByte (b : Byte) (s : State) : Host.Outcome State Fault Refusal :=
  match s.storeByte 8 b with
  | none => .fault .noSuchByte
  | some t => .next (decGeomEnd t)

/-- One BLOCK step in phase DEC_GEOM on `End`, already popped: the clean end of the stream after 0 or 1 bytes, and
TRUNCATED_STREAM otherwise (R149). -/
def stepDecGeomEnd (s : State) : Host.Outcome State Fault Refusal :=
  if s.h.idx.toNat < 2 then .next { s with regs.eos := true }.finish else .next (s.raiseError .truncatedStream)

/-- The two pixel writes of a payload byte, the left one first (R152). -/
def decWrites (b : Byte) (s : State) : State :=
  (s.poutPush s.h.dx s.h.dy (unpackLeft b)).poutPush (s.h.dx + 1) s.h.dy (unpackRight b)

/-- The next byte's place, and at the row's end the next row, and after the last row the end of the record (R152). -/
def decAdvance (s : State) : State :=
  let s := { s with h.dx := s.h.dx + 2 }
  if s.h.xe ≤ s.h.dx then
    let s := { s with h.dx := s.h.xs, h.dy := s.h.dy + 1 }
    if s.h.ye ≤ s.h.dy then s.finish else s
  else s

/-- One BLOCK step in phase DEC_PIX on `Byte(b)`, already popped (R152). -/
def stepDecPixByte (b : Byte) (s : State) : Host.Outcome State Fault Refusal := .next (decAdvance (decWrites b s))

/-- One BLOCK step in phase DEC_PIX on `End`, already popped: TRUNCATED_STREAM, and the writes already emitted stay
on POUT (R153). -/
def stepDecPixEnd (s : State) : Host.Outcome State Fault Refusal := .next (s.raiseError .truncatedStream)

end Sys2Proof.Machine
end

