-- ==== Sys2Proof/Machine/Block.lean ====
section
/-! DEFINITION. The dispatch of BLOCK steps (spec/43_control.md R207). -/

namespace Sys2Proof.Machine

/-- The step of a phase that needs a token: on `Byte(b)` or on `End`, the token popped; none when BIN is empty, for
then the BLOCK holds (R64, R207). -/
def onToken (s : State) (onByte : Byte → State → Host.Outcome State Fault Refusal)
    (onEnd : State → Host.Outcome State Fault Refusal) : Option (Host.Outcome State Fault Refusal) :=
  match s.binPop with
  | none => none
  | some (.byte b, t) => some (onByte b t)
  | some (.endOfStream, t) => some (onEnd t)

/-- The step of the phase that needs a sample, the sample popped; none when PIN is empty (R65, R207). -/
def onSample (s : State) (onPixel : Byte → State → Host.Outcome State Fault Refusal) :
    Option (Host.Outcome State Fault Refusal) :=
  match s.pinPop with
  | none => none
  | some (p, t) => some (onPixel p t)

/-- The BLOCK's one enabled step, chosen by h.fsm and the head of its input stream; none when no step is enabled: in
IDLE, in ERROR, and while the BLOCK holds (R206, R207). -/
def blockStep (s : State) : Option (Host.Outcome State Fault Refusal) :=
  match s.h.fsm with
  | .idle => none
  | .encHdr => some (stepEncHdr s)
  | .encGeom => some (stepEncGeom s)
  | .encPix => onSample s stepEncPix
  | .decHdr => onToken s stepDecHdrByte stepDecHdrEnd
  | .decGeom => onToken s stepDecGeomByte stepDecGeomEnd
  | .decPix => onToken s stepDecPixByte stepDecPixEnd
  | .error => none

/-- Whether a BLOCK step is enabled (R207). -/
def State.blockEnabled (s : State) : Bool := (blockStep s).isSome

/-- The BLOCK's turn: its enabled step, and no change where it has none (R206, R207, log 3). -/
def blockTurn (s : State) : Host.Outcome State Fault Refusal :=
  match blockStep s with
  | none => .next s
  | some o => o

end Sys2Proof.Machine
end

