-- ==== Sys2Proof/Machine/Control.lean ====
section
/-! DEFINITION. The control rows: NOP (spec/43_control.md R204), SRST (R203) and the reserved codes, which raise
ILLEGAL_COMMAND on acceptance and are dropped like any command otherwise (spec/30_encoding.md R92,
spec/60_exceptions.md R226). -/

namespace Sys2Proof.Machine

/-- NOP: `CTRL.IE <- d[8]`, nothing else, in every phase; never dropped (R204). -/
def execNop (ie : Bool) (s : State) : Host.Outcome State Fault Refusal := .next (s.setIe ie)

/-- SRST: the effect of the reset input, in every phase (R203). -/
def execSrst (s : State) : Host.Outcome State Fault Refusal := .next s.resetBlock

/-- Acceptance of a reserved code: `raise Error(ILLEGAL_COMMAND)` (R202, R226). -/
def illegalBody (s : State) : State := s.raiseError .illegalCommand

/-- RESERVED_0x7 (R92, R226). -/
def execReserved7 (ie : Bool) (s : State) : Host.Outcome State Fault Refusal := .next (s.issue ie illegalBody)

/-- RESERVED_0x8 (R92, R226). -/
def execReserved8 (ie : Bool) (s : State) : Host.Outcome State Fault Refusal := .next (s.issue ie illegalBody)

/-- RESERVED_0x9 (R92, R226). -/
def execReserved9 (ie : Bool) (s : State) : Host.Outcome State Fault Refusal := .next (s.issue ie illegalBody)

/-- RESERVED_0xA (R92, R226). -/
def execReservedA (ie : Bool) (s : State) : Host.Outcome State Fault Refusal := .next (s.issue ie illegalBody)

/-- RESERVED_0xB (R92, R226). -/
def execReservedB (ie : Bool) (s : State) : Host.Outcome State Fault Refusal := .next (s.issue ie illegalBody)

/-- RESERVED_0xC (R92, R226). -/
def execReservedC (ie : Bool) (s : State) : Host.Outcome State Fault Refusal := .next (s.issue ie illegalBody)

/-- RESERVED_0xD (R92, R226). -/
def execReservedD (ie : Bool) (s : State) : Host.Outcome State Fault Refusal := .next (s.issue ie illegalBody)

/-- RESERVED_0xE (R92, R226). -/
def execReservedE (ie : Bool) (s : State) : Host.Outcome State Fault Refusal := .next (s.issue ie illegalBody)

/-- RESERVED_0xF (R92, R226). -/
def execReservedF (ie : Bool) (s : State) : Host.Outcome State Fault Refusal := .next (s.issue ie illegalBody)

end Sys2Proof.Machine
end

