-- ==== Sys2Proof/Machine/NibblePacker.lean ====
section
/-! DEFINITION. The nibble packer's stand-alone commands (spec/42_nibble_packer.md R185, R186). Both complete in the
accepting step. -/

namespace Sys2Proof.Machine

/-- `DP_RESULT <- zext_32(pack(PE, PO)); finish()` (R185). -/
def packBody (s : State) : State :=
  { s with regs.dpResult := (pack s.regs.pe s.regs.po).setWidth 32 }.finish

/-- PACK (R185). -/
def execPack (ie : Bool) (s : State) : Host.Outcome State Fault Refusal := .next (s.issue ie packBody)

/-- `DP_RESULT <- zext_32({right, left}); finish()` with `(left, right) = unpack(PE)` (R186). -/
def unpackBody (s : State) : State :=
  { s with regs.dpResult := (unpackRight s.regs.pe ++ unpackLeft s.regs.pe).setWidth 32 }.finish

/-- UNPACK (R186). -/
def execUnpack (ie : Bool) (s : State) : Host.Outcome State Fault Refusal := .next (s.issue ie unpackBody)

end Sys2Proof.Machine
end

