-- ==== Sys2Proof/Machine/Dispatch.lean ====
section
/-! DEFINITION. The meaning of a command word: one arm per constructor of Instr (spec/43_control.md R200 to R205). -/

namespace Sys2Proof.Machine

def exec (i : Instr) (s : State) : Host.Outcome State Fault Refusal :=
  match i with
  | .nop ie => Sys2Proof.Machine.execNop ie s
  | .pack ie => Sys2Proof.Machine.execPack ie s
  | .unpack ie => Sys2Proof.Machine.execUnpack ie s
  | .encHeader ie => Sys2Proof.Machine.execEncHeader ie s
  | .encRecord ie => Sys2Proof.Machine.execEncRecord ie s
  | .decHeader ie => Sys2Proof.Machine.execDecHeader ie s
  | .decRecord ie => Sys2Proof.Machine.execDecRecord ie s
  | .reserved7 ie => Sys2Proof.Machine.execReserved7 ie s
  | .reserved8 ie => Sys2Proof.Machine.execReserved8 ie s
  | .reserved9 ie => Sys2Proof.Machine.execReserved9 ie s
  | .reservedA ie => Sys2Proof.Machine.execReservedA ie s
  | .reservedB ie => Sys2Proof.Machine.execReservedB ie s
  | .reservedC ie => Sys2Proof.Machine.execReservedC ie s
  | .reservedD ie => Sys2Proof.Machine.execReservedD ie s
  | .reservedE ie => Sys2Proof.Machine.execReservedE ie s
  | .reservedF ie => Sys2Proof.Machine.execReservedF ie s
  | .srst => Sys2Proof.Machine.execSrst s

end Sys2Proof.Machine
end

