-- ==== Sys2Proof/Machine/Turns.lean ====
section
/-! DEFINITION. One place in the total order of HOST actions and BLOCK steps (spec/20_memory.md R73): the HOST's
actions (R60 to R67, spec/70_reset_and_hazards.md R251) and whose turn is next. -/

namespace Sys2Proof.Machine

/-- `RegWrite(a, d)` (R60, R62): a write that selects CTRL is a command word and runs it (R200); any other is a data or
STATUS write. -/
def regWrite (a : Addr) (d : Word) (s : State) : Host.Outcome State Fault Refusal :=
  match decodeWrite a d with
  | .ok i => exec i s
  | .error _ => .next (s.writeOther (regAt a) d)

/-- One HOST action (R76). -/
def hostAct (a : HostAction) (s : State) : Host.Outcome State Fault Refusal :=
  match a with
  | .regWrite addr data => regWrite addr data s
  | .regRead addr => .next (s.recordRead (s.regRead addr))
  | .binAppend t => .next (s.binAppend t)
  | .pinAppend p => .next (s.pinAppend p)
  | .boutTake => .next s.boutTake
  | .poutTake => .next s.poutTake
  | .resetPin => .next s.resetBlock

/-- The next turn of the agenda (log 1). A WAIT stands while BUSY = 1, and the BLOCK steps meanwhile (R103). With
nothing on the agenda every turn is the BLOCK's, so that each enabled step is taken (R267). -/
def takeTurn (s : State) : Host.Outcome State Fault Refusal :=
  match s.host.agenda with
  | [] => blockTurn s
  | .host a :: rest => hostAct a (s.withAgenda rest)
  | .block :: rest => blockTurn (s.withAgenda rest)
  | .wait :: rest => if s.busy then blockTurn s else .next (s.withAgenda rest)

end Sys2Proof.Machine
end

