-- ==== Sys2Proof/Machine/Step.lean ====
section
/-! DEFINITION. The step of the machine, and where the host places an instruction for it to run. -/

namespace Sys2Proof.Machine

/-- One step: the next turn in the order of HOST actions and BLOCK steps (spec/20_memory.md R73). -/
def step (s : State) : Host.Outcome State Fault Refusal := takeTurn s

/-- `s` with the command word of a row of spec/opcode_table.json as the next turn: the HOST writes it to CTRL. The block
fetches no instructions (spec/10_state.md R21, spec/20_memory.md R75), so this stands for the HOST's action (log 1). -/
def State.withFetchWord (s : State) (nbits w : Nat) : State := s.placeCommand (tableWord nbits w)

end Sys2Proof.Machine
end

