-- ==== Sys2Proof/Machine/Program.lean ====
section
/-! DEFINITION. The HOST program statements of spec/30_encoding.md R102 and R103, each as the piece of agenda it adds.
A program is the pieces joined with `++`. -/

namespace Sys2Proof.Machine

/-- The offset of a register (spec/10_state.md R22); the first of the reserved offsets for `reserved`. -/
def Reg.offset (r : Reg) : Addr :=
  match r with
  | .ctrl => 0x00
  | .status => 0x04
  | .hdrVersion => 0x08
  | .hdrIdent => 0x0C
  | .hdrSleep => 0x10
  | .geomXY => 0x14
  | .geomWH => 0x18
  | .dpOperand => 0x1C
  | .dpResult => 0x20
  | .payLen => 0x24
  | .reserved => 0x28

/-- `WR <reg>, <imm32>` (R102). -/
def stmtWr (r : Reg) (d : Word) : List Turn := [.host (.regWrite r.offset d)]

/-- `RD <reg>` (R102). -/
def stmtRd (r : Reg) : List Turn := [.host (.regRead r.offset)]

/-- `BIN <b0> <b1> ...` (R102). -/
def stmtBin (bs : List Byte) : List Turn := bs.map fun b => .host (.binAppend (.byte b))

/-- `BIN END` (R102). -/
def stmtBinEnd : List Turn := [.host (.binAppend .endOfStream)]

/-- `PIN <p0> <p1> ...` (R102). -/
def stmtPin (ps : List Byte) : List Turn := ps.map fun p => .host (.pinAppend p)

/-- `CMD <mnemonic>` is `WR CTRL, zext_32(code)`, and `CMD <mnemonic>, IE` sets bit 8 too (R103). -/
def stmtCmd (code : Nibble) (ie : Bool) : List Turn :=
  stmtWr .ctrl (code.setWidth 32 ||| ((BitVec.ofBool ie).setWidth 32 <<< 8))

/-- `SRST` is `WR CTRL, 0x80000000` (R103). -/
def stmtSrst : List Turn := stmtWr .ctrl 0x80000000#32

/-- `WAIT` repeats `RD STATUS` until BUSY = 0 (R103); it is one turn that stands until then (log 4). -/
def stmtWait : List Turn := [.wait]

/-- `CLRDROP` is `WR STATUS, 0x00000200` (R103). -/
def stmtClrDrop : List Turn := stmtWr .status 0x00000200#32

end Sys2Proof.Machine
end

