-- ==== Sys2Proof/Safety.lean ====
section
/-! DEFINITION. The terms claims use: the invariant of the machine, the end of a run (spec/43_control.md R208), what is
left of a command (spec/70_reset_and_hazards.md R267), the wire format in closed form (spec/30_encoding.md R94 to R97),
and the HOST's canvas as the writes paint it (spec/20_memory.md R67). -/

namespace Sys2Proof.Machine

/-! ### The invariant -/

/-- `ERR != 0` exactly in ERROR (R26); EOS comes with DONE (R28); DONE = 1 only in IDLE, since acceptance clears it and
only `finish()` sets it (R202, R206). -/
abbrev FlagsInv (s : State) : Prop :=
  (s.regs.err ≠ .none ↔ s.h.fsm = .error) ∧ (s.regs.eos = true → s.regs.done = true)
    ∧ (s.regs.done = true → s.h.fsm = .idle)

/-- h.idx is an index 0..9 (R40), and in a header or geometry phase it names a byte of that record. -/
abbrev IndexInv (s : State) : Prop :=
  s.h.idx.toNat ≤ 9 ∧ (s.h.fsm = .encHdr ∨ s.h.fsm = .decHdr → s.h.idx.toNat < 9)
    ∧ (s.h.fsm = .encGeom ∨ s.h.fsm = .decGeom → s.h.idx.toNat < 8)

/-- While ENC_RECORD runs: the geometry passed the checks of R142, PAY_LEN is `W/2 * H`, and the scan is inside the
image (R40, R145). -/
abbrev EncodeInv (s : State) : Prop :=
  (s.h.fsm = .encGeom ∨ s.h.fsm = .encPix →
      s.regs.w.toNat ≤ 960 ∧ s.regs.ht.toNat ≤ 540 ∧ s.regs.w.toNat % 2 = 0
        ∧ s.regs.payLen.toNat = s.regs.w.toNat / 2 * s.regs.ht.toNat)
    ∧ (s.h.fsm = .encGeom → s.h.col = 0 ∧ s.h.row = 0)
    ∧ (s.h.fsm = .encPix → s.h.col.toNat < s.regs.w.toNat ∧ s.h.row.toNat < s.regs.ht.toNat)

/-- While DEC_RECORD reads its payload: the scan registers hold the window of the geometry registers (R148, R150),
PAY_LEN is its length (R151), and the scan is inside the window, a whole number of bytes from the row's start (R152). -/
abbrev DecodeInv (s : State) : Prop :=
  s.h.fsm = .decPix →
    s.h.xs = s.window.xs ∧ s.h.xe = s.window.xe ∧ s.h.ye = s.window.ye ∧ s.regs.payLen = payLenOf s.window
      ∧ s.h.xs.toNat ≤ s.h.dx.toNat ∧ s.h.dx.toNat < s.h.xe.toNat ∧ (s.h.dx.toNat - s.h.xs.toNat) % 2 = 0
      ∧ s.window.ys.toNat ≤ s.h.dy.toNat ∧ s.h.dy.toNat < s.h.ye.toNat

/-- PAY_LEN is at most 0x7FFF8000 (R37), and DP_RESULT[31:16] = 0 (R36). -/
abbrev ResultInv (s : State) : Prop := s.regs.payLen.toNat ≤ 0x7FFF8000 ∧ s.regs.dpResult.toNat < 2 ^ 16

/-- The HOST has read no more of BOUT and POUT than there is (log 5). -/
abbrev TakenInv (s : State) : Prop :=
  s.host.boutTaken ≤ s.io.bout.length ∧ s.host.poutTaken ≤ s.io.pout.length

/-- The invariant of the machine. -/
abbrev State.Inv (s : State) : Prop :=
  FlagsInv s ∧ IndexInv s ∧ EncodeInv s ∧ DecodeInv s ∧ ResultInv s ∧ TakenInv s

/-! ### The end of a run -/

/-- Whether a turn belongs to a statement of the HOST program: an action or a WAIT. A turn of the BLOCK belongs to none
(R208, log 1). -/
def isStatement (t : Turn) : Bool :=
  match t with
  | .host _ => true
  | .block => false
  | .wait => true

/-- The HOST program has no statement left: what the agenda still holds are turns of the BLOCK (R208). -/
def State.programDone (s : State) : Bool := s.host.agenda.all fun t => !isStatement t

/-- The HOST program has no statement left and the BLOCK has no enabled step (R208). -/
abbrev State.Ended (s : State) : Prop := s.programDone = true ∧ s.blockEnabled = false

/-- The run has ended well: h.fsm = IDLE and STATUS.ERR = 0, so no command is in progress (R206, R208). -/
abbrev State.EndedWell (s : State) : Prop := s.Ended ∧ s.h.fsm = .idle ∧ s.regs.err = .none

/-- The run is held: it has ended in ENC_PIX or in a DEC_* phase (R208). -/
abbrev State.Held (s : State) : Prop :=
  s.Ended ∧ (s.h.fsm = .encPix ∨ s.h.fsm = .decHdr ∨ s.h.fsm = .decGeom ∨ s.h.fsm = .decPix)

/-- The run has failed: it has ended in ERROR (R208). -/
abbrev State.Failed (s : State) : Prop := s.Ended ∧ s.h.fsm = .error

/-- The next turn resets the block: the reset input, or a CTRL write with bit 31 = 1 (R250). -/
def State.resetNext (s : State) : Bool :=
  match s.host.agenda with
  | .host .resetPin :: _ => true
  | .host (.regWrite a d) :: _ => regSelect a == 0x0#4 && srstField d
  | _ => false

/-- The next turn issues a command: a CTRL write with bit 31 = 0 and CMD not 0 (R200). -/
def State.commandNext (s : State) : Bool :=
  match s.host.agenda with
  | .host (.regWrite a d) :: _ => regSelect a == 0x0#4 && !srstField d && cmdField d != 0#4
  | _ => false

/-- The next turn belongs to the BLOCK: the agenda is empty, or says so, or stands at a WAIT (R103) while BUSY. -/
def State.blockNext (s : State) : Bool :=
  match s.host.agenda with
  | [] => true
  | .host _ :: _ => false
  | .block :: _ => true
  | .wait :: _ => s.busy

/-- The rows of the reserved codes, CMD 0x7 to 0xF (R92). -/
def reservedRows (ie : Bool) : List Instr :=
  [.reserved7 ie, .reserved8 ie, .reserved9 ie, .reservedA ie, .reservedB ie, .reservedC ie, .reservedD ie,
   .reservedE ie, .reservedF ie]

/-! ### What is left of a command -/

/-- A bound on the BLOCK steps the command in progress still takes (R266, R267); exact but for DEC_GEOM, where the
payload is not known yet and its bound is PAY_LEN's largest value (R37). -/
def State.stepsLeft (s : State) : Nat :=
  match s.h.fsm with
  | .idle => 0
  | .encHdr => 9 - s.h.idx.toNat
  | .encGeom => 8 - s.h.idx.toNat + s.regs.w.toNat * s.regs.ht.toNat
  | .encPix => s.regs.w.toNat * s.regs.ht.toNat - (s.h.row.toNat * s.regs.w.toNat + s.h.col.toNat)
  | .decHdr => 9 - s.h.idx.toNat
  | .decGeom => 8 - s.h.idx.toNat + 0x7FFF8000
  | .decPix =>
    ceilHalf (s.h.xe.toNat - s.h.xs.toNat) * (s.h.ye.toNat - s.h.dy.toNat) - (s.h.dx.toNat - s.h.xs.toNat) / 2
  | .error => 0

/-! ### The wire format in closed form -/

/-- The nine bytes of a GlobalHeader, in stream order (R94). -/
def headerBytes (version : Byte) (identifier sleepSeconds : Word) : List Byte :=
  [version,
   identifier.extractLsb' 0 8, identifier.extractLsb' 8 8, identifier.extractLsb' 16 8, identifier.extractLsb' 24 8,
   sleepSeconds.extractLsb' 0 8, sleepSeconds.extractLsb' 8 8, sleepSeconds.extractLsb' 16 8,
   sleepSeconds.extractLsb' 24 8]

/-- The eight bytes of a geometry descriptor, in stream order (R95). -/
def geometryBytes (x0 y0 w ht : Half) : List Byte :=
  [x0.extractLsb' 0 8, x0.extractLsb' 8 8, y0.extractLsb' 0 8, y0.extractLsb' 8 8,
   w.extractLsb' 0 8, w.extractLsb' 8 8, ht.extractLsb' 0 8, ht.extractLsb' 8 8]

/-- The payload byte of two horizontally adjacent pixels: the right pixel's top four bits over the left one's (R96). -/
def payloadByte (left right : Byte) : Byte := right.extractLsb' 4 4 ++ left.extractLsb' 4 4

/-- The payload of a list of samples: one byte for each pair (R146). -/
def payloadBytes : List Byte → List Byte
  | left :: right :: rest => payloadByte left right :: payloadBytes rest
  | _ => []

/-- The bytes of a stream as BIN tokens. -/
def asTokens (bs : List Byte) : List Token := bs.map .byte

/-- The pixel writes of payload byte number `k` of a record whose rows have `n` bytes and whose window starts at
`(xs, ys)`: the low nibble at `(x, y)` and the high nibble at `(x+1, y)`, each with four 0 bits below it (R96, R152). -/
def writesOfByte (xs ys : Coord) (n k : Nat) (b : Byte) : List PixelWrite :=
  let x := xs + BitVec.ofNat 17 (2 * (k % n))
  let y := ys + BitVec.ofNat 17 (k / n)
  [{ x := x, y := y, v := b.extractLsb' 0 4 ++ 0#4 }, { x := x + 1, y := y, v := b.extractLsb' 4 4 ++ 0#4 }]

/-- The pixel writes of a whole payload, in order (R152). -/
def writesOfPayload (xs ys : Coord) (n : Nat) (bs : List Byte) : List PixelWrite :=
  (bs.zipIdx.map fun p => writesOfByte xs ys n p.2 p.1).flatten

/-- The pixel writes that paint a `w`-wide image at `(x0, y0)`, sample number `k` at `(x0 + k mod w, y0 + k div w)` with
its low four bits cleared (R156). -/
def paintedImage (x0 y0 w : Half) (samples : List Byte) : List PixelWrite :=
  samples.zipIdx.map fun p =>
    { x := x0.setWidth 17 + BitVec.ofNat 17 (p.2 % w.toNat)
      y := y0.setWidth 17 + BitVec.ofNat 17 (p.2 / w.toNat)
      v := p.1 &&& 0xF0#8 }

/-- What the HOST's canvas, pre-filled with 255 (R255), holds at `(x, y)` after the writes `ws` in order (R67, R155).
The canvas is outside the block (spec/00_scope.md R4, log 13). -/
def canvasAt (ws : List PixelWrite) (x y : Coord) : Byte :=
  match ws.reverse.find? fun p => p.x == x && p.y == y with
  | some p => p.v
  | none => 255

end Sys2Proof.Machine
end

