-- ==== Sys2Proof/Certificates/Slice0/Obligations.lean ====
section
/-! DEFINITION. The statements for the provers. Each docstring names the rule of spec/ it formalises; where a statement
rests on a choice of the model, it names the log entry. -/

open Sys2Proof Sys2Proof.Machine

/-! ### Encoding -/

/-- Decode and encode agree in both directions: an instruction's word decodes to it, with IE at both values, and a word
with 0 in every ignored bit is the word of what it decodes to (R90, R91, R93; the 0s are log 7). -/
def Obligations.DecodeEncodeAgree : Prop :=
  (∀ i : Instr, i.wf = true → decode (encode i) = i ∧ canonicalWord (encode i) = true)
    ∧ ∀ w : Word, canonicalWord w = true → encode (decode w) = w

/-- A word decodes to exactly the instruction whose row of spec/opcode_table.json it matches under the row's mask, with
IE equal to bit 8 (R91, R93). -/
def Obligations.DecodeMatchesItsRowOnly : Prop :=
  ∀ (w : Word) (i : Instr),
    decode w = i ↔ w &&& tableMask i = tableMatch i ∧ (i = .srst ∨ (encode i).getLsbD 8 = w.getLsbD 8)

/-- Words written out from R91, R93 and R103 decode to what they stand for; and a register write is the command word it
carries at every address that selects CTRL, 0x00 to 0x03, and no command at any other (R61, R62). -/
def Obligations.WordsOfTheSpecDecode : Prop :=
  decode 0x00000004#32 = .encRecord false ∧ decode 0x00000105#32 = .decHeader true
    ∧ decode 0x00000102#32 = .unpack true ∧ decode 0x0000000F#32 = .reservedF false
    ∧ decode 0x7FFFFEF1#32 = .pack false ∧ decode 0x80000003#32 = .srst
    ∧ ∀ (a : Addr) (d : Word),
      (a &&& 0x3C#6 = 0x00#6 → decodeWrite a d = .ok (decode d))
        ∧ (a &&& 0x3C#6 ≠ 0x00#6 → decodeWrite a d = .error .notCtrl)

/-! ### Steps and turns -/

/-- When the next turn is a register write that is a command word, the step runs the decoded instruction, the turn taken
off the agenda (R200; the agenda is log 1); so it does for a word placed by `withFetchWord`. -/
def Obligations.StepRunsDecodedCommand : Prop :=
  (∀ (s : State) (a : Addr) (d : Word) (rest : List Turn) (i : Instr),
      s.host.agenda = .host (.regWrite a d) :: rest → decodeWrite a d = .ok i → i.wf = true →
        step s = exec i { s with host.agenda := rest })
    ∧ ∀ (s : State) (w : Word), step (s.withFetchWord 32 w.toNat) = exec (decode w) s

/-- Whose turn is next: with an empty agenda or at a BLOCK turn the BLOCK takes its enabled step, or nothing changes; a
WAIT stands while BUSY, the BLOCK stepping meanwhile, and passes once BUSY = 0 (R103, R206; log 1, log 3, log 4). -/
def Obligations.StepTakesTurns : Prop :=
  (∀ (s : State) (o : Host.Outcome State Fault Refusal),
      s.host.agenda = [] ∨ (s.busy = true ∧ ∃ rest, s.host.agenda = .wait :: rest) →
        (blockStep s = some o → step s = o) ∧ (blockStep s = none → step s = .next s))
    ∧ (∀ (s : State) (rest : List Turn) (o : Host.Outcome State Fault Refusal), s.host.agenda = .block :: rest →
        (blockStep { s with host.agenda := rest } = some o → step s = o)
          ∧ (blockStep { s with host.agenda := rest } = none → step s = .next { s with host.agenda := rest }))
    ∧ ∀ (s : State) (rest : List Turn), s.host.agenda = .wait :: rest → s.busy = false →
        step s = .next { s with host.agenda := rest }

/-! ### Commands at acceptance -/

/-- NOP is CMD 0x0, and writes IE and nothing else, in every phase (R204, R205). -/
def Obligations.NopWritesOnlyIe : Prop :=
  (∀ d : Word, d.getLsbD 31 = false → d.extractLsb' 0 4 = 0x0#4 → decode d = .nop (d.getLsbD 8))
    ∧ ∀ (s : State) (ie : Bool), exec (.nop ie) s = .next { s with regs.ie := ie }

/-- PACK, CMD 0x1, in IDLE: DP_RESULT takes `{PO[7:4], PE[7:4]}`, DONE is 1, EOS 0, IE the word's bit; all else is unchanged
(R182, R185, R202, R205). -/
def Obligations.PackInIdle : Prop :=
  (∀ d : Word, d.getLsbD 31 = false → d.extractLsb' 0 4 = 0x1#4 → decode d = .pack (d.getLsbD 8))
    ∧ ∀ (s : State) (ie : Bool), s.h.fsm = .idle →
    exec (.pack ie) s = .next { s with
      regs.ie := ie, regs.eos := false, regs.done := true
      regs.dpResult := (s.regs.po.extractLsb' 4 4 ++ s.regs.pe.extractLsb' 4 4).setWidth 32 }

/-- UNPACK, CMD 0x2, in IDLE: DP_RESULT takes `{right, left}` of the byte PE, PO ignored; DONE is 1, EOS 0, IE the word's bit;
all else is unchanged (R183, R186, R202, R205). -/
def Obligations.UnpackInIdle : Prop :=
  (∀ d : Word, d.getLsbD 31 = false → d.extractLsb' 0 4 = 0x2#4 → decode d = .unpack (d.getLsbD 8))
    ∧ ∀ (s : State) (ie : Bool), s.h.fsm = .idle →
    exec (.unpack ie) s = .next { s with
      regs.ie := ie, regs.eos := false, regs.done := true
      regs.dpResult :=
        (s.regs.pe.extractLsb' 4 4 ++ 0#4 ++ s.regs.pe.extractLsb' 0 4 ++ 0#4 : BitVec 16).setWidth 32 }

/-- ENC_HEADER, DEC_HEADER and DEC_RECORD in IDLE: DONE and EOS are 0, h.idx is 0 and h.fsm the command's first phase;
all else but IE is unchanged (R121, R123, R147, R202, R205). -/
def Obligations.MultiStepCommandsStart : Prop :=
  ∀ (s : State) (ie : Bool), s.h.fsm = .idle →
    exec (.encHeader ie) s = .next { s with
        regs.ie := ie, regs.eos := false, regs.done := false, h.idx := 0, h.fsm := .encHdr }
      ∧ exec (.decHeader ie) s = .next { s with
        regs.ie := ie, regs.eos := false, regs.done := false, h.idx := 0, h.fsm := .decHdr }
      ∧ exec (.decRecord ie) s = .next { s with
        regs.ie := ie, regs.eos := false, regs.done := false, h.idx := 0, h.fsm := .decGeom }

/-- ENC_RECORD in IDLE with an even W at most 960 and H at most 540 is accepted: PAY_LEN is `W/2 * H` and the scan starts
at the first byte, column and row; all else but the flags and IE is unchanged (R142, R202, R205). -/
def Obligations.EncRecordAccepted : Prop :=
  ∀ (s : State) (ie : Bool), s.h.fsm = .idle → s.regs.w.toNat ≤ 960 → s.regs.ht.toNat ≤ 540 →
    s.regs.w.toNat % 2 = 0 →
      ∃ t, exec (.encRecord ie) s = .next t ∧ t.regs.payLen.toNat = s.regs.w.toNat / 2 * s.regs.ht.toNat
        ∧ t = { s with
          regs.ie := ie, regs.eos := false, regs.done := false, regs.payLen := t.regs.payLen
          h.idx := 0, h.col := 0, h.row := 0, h.hold := 0, h.fsm := .encGeom }

/-- ENC_RECORD in IDLE raises DIMENSION_TOO_LARGE when W > 960 or H > 540, odd W or not, and INVALID_GEOMETRY when W is
odd and the size passed: ERR and h.fsm say so, nothing reaches BOUT, PAY_LEN is unchanged (R142, R223 to R225, R229). -/
def Obligations.EncRecordRejected : Prop :=
  ∀ (s : State) (ie : Bool), s.h.fsm = .idle →
    (s.regs.w.toNat > 960 ∨ s.regs.ht.toNat > 540 →
        exec (.encRecord ie) s = .next { s with
          regs.ie := ie, regs.eos := false, regs.done := false, regs.err := .dimensionTooLarge, h.fsm := .error })
      ∧ (s.regs.w.toNat ≤ 960 → s.regs.ht.toNat ≤ 540 → s.regs.w.toNat % 2 = 1 →
        exec (.encRecord ie) s = .next { s with
          regs.ie := ie, regs.eos := false, regs.done := false, regs.err := .invalidGeometry, h.fsm := .error })

/-- CMD 0x7 to 0xF: a reserved code in IDLE is accepted and raises ILLEGAL_COMMAND; outside IDLE it is dropped like any
other command (R92, R202, R225, R226). -/
def Obligations.ReservedCodesRaiseIllegalCommand : Prop :=
  (∀ d : Word, d.getLsbD 31 = false → 7 ≤ (d.extractLsb' 0 4).toNat →
      decode d ∈ reservedRows (d.getLsbD 8))
    ∧ ∀ (s : State) (ie : Bool) (i : Instr), i ∈ reservedRows ie →
      (s.h.fsm = .idle → exec i s = .next { s with
          regs.ie := ie, regs.eos := false, regs.done := false, regs.err := .illegalCommand, h.fsm := .error })
        ∧ (s.h.fsm ≠ .idle → exec i s = .next { s with regs.ie := ie, regs.cmdDrop := true })

/-- Every command but NOP and SRST, the reserved codes too, is dropped outside IDLE: CMD_DROP is set, IE is written, and
it has no other effect (R92, R201, R205). -/
def Obligations.CommandsOutsideIdleAreDropped : Prop :=
  ∀ (s : State) (ie : Bool) (i : Instr), s.h.fsm ≠ .idle →
    i ∈ [Instr.pack ie, .unpack ie, .encHeader ie, .encRecord ie, .decHeader ie, .decRecord ie]
        ++ reservedRows ie →
      exec i s = .next { s with regs.ie := ie, regs.cmdDrop := true }

/-- SRST and the reset input have the same effect in every phase: each register and hidden element takes its reset value,
and the streams stay as they are (R203, R250, R252). EXTENT_MODE and the HOST's side stay too, which is the model's
reading (log 14). -/
def Obligations.BothResetsAgree : Prop :=
  (∀ s : State, exec .srst s = .next { s with regs := State.reset.regs, h := State.reset.h })
    ∧ ∀ (s : State) (rest : List Turn), s.host.agenda = .host .resetPin :: rest →
      step s = .next { s with regs := State.reset.regs, h := State.reset.h, host.agenda := rest }

/-- What reset leaves: HDR_VERSION reads 1 and every other register 0, every hidden element is 0 with h.fsm = IDLE, and
irq is 0 (R43, R250). -/
def Obligations.ResetLeavesTheStatedValues : Prop :=
  (∀ a : Addr, State.reset.regRead a = if a &&& 0x3C#6 = 0x08#6 then 1 else 0)
    ∧ State.reset.h = { fsm := .idle, idx := 0, buf := Vector.replicate 9 0, hold := 0, col := 0, row := 0
                        dx := 0, dy := 0, xs := 0, xe := 0, ye := 0 }
    ∧ State.reset.irq = false

/-! ### BLOCK steps -/

/-- A step in ENC_HDR emits byte h.idx of the GlobalHeader and the ninth one completes the command (R120, R122, R206;
the byte order is the spec's own inference, log 8). -/
def Obligations.EncHdrStep : Prop :=
  ∀ s : State, s.h.fsm = .encHdr → s.h.idx.toNat < 9 →
    ∃ b, (headerBytes s.regs.hdrVersion s.regs.hdrIdent s.regs.hdrSleep)[s.h.idx.toNat]? = some b
      ∧ blockStep s = some (.next { s with
        io.bout := s.io.bout ++ [b], h.idx := s.h.idx + 1
        h.fsm := if s.h.idx = 8 then .idle else .encHdr
        regs.done := if s.h.idx = 8 then true else s.regs.done })

/-- A step in ENC_GEOM emits byte h.idx of the descriptor; the eighth one ends the command when W or H is 0 and goes on
to the pixels otherwise (R141, R143, R144; the byte order is the spec's own inference, log 8). -/
def Obligations.EncGeomStep : Prop :=
  ∀ s : State, s.h.fsm = .encGeom → s.h.idx.toNat < 8 →
    ∃ b, (geometryBytes s.regs.x0 s.regs.y0 s.regs.w s.regs.ht)[s.h.idx.toNat]? = some b
      ∧ blockStep s = some (.next { s with
        io.bout := s.io.bout ++ [b], h.idx := s.h.idx + 1
        h.fsm := if s.h.idx = 7 then (if s.regs.w = 0 ∨ s.regs.ht = 0 then .idle else .encPix) else .encGeom
        regs.done := if s.h.idx = 7 ∧ (s.regs.w = 0 ∨ s.regs.ht = 0) then true else s.regs.done })

/-- With PIN empty ENC_PIX has no step. With a sample its step takes that one: at an even column it is quantised and held, at an odd
one the byte
`{p[7:4], h.hold}` is emitted; then the scan goes on, and after the last column of the last row the command completes
(R145; that h.col and h.row wrap where State.Inv fails is the model's choice, log 12). -/
def Obligations.EncPixStep : Prop :=
  (∀ s : State, s.h.fsm = .encPix → s.io.pin = [] → blockStep s = none)
    ∧ ∀ (s : State) (p : Byte) (rest : List Byte), s.h.fsm = .encPix → s.io.pin = p :: rest →
    blockStep s = some (.next { s with
      io.pin := rest
      io.bout := if s.h.col.toNat % 2 = 0 then s.io.bout else s.io.bout ++ [p.extractLsb' 4 4 ++ s.h.hold]
      h.hold := if s.h.col.toNat % 2 = 0 then p.extractLsb' 4 4 else s.h.hold
      h.col := if s.h.col + 1 = s.regs.w then 0 else s.h.col + 1
      h.row := if s.h.col + 1 = s.regs.w then s.h.row + 1 else s.h.row
      h.fsm := if s.h.col + 1 = s.regs.w ∧ s.h.row + 1 = s.regs.ht then .idle else .encPix
      regs.done := if s.h.col + 1 = s.regs.w ∧ s.h.row + 1 = s.regs.ht then true else s.regs.done })

/-- A step in DEC_HDR on a byte stores it; the ninth one loads the three header registers, and completes the command when
the version is 1 and raises UNSUPPORTED_VERSION otherwise, the registers loaded either way (R124, R126, R221;
the byte order is the spec's own inference, log 8). -/
def Obligations.DecHdrByteStep : Prop :=
  ∀ (s : State) (b : Byte) (rest : List Token), s.h.fsm = .decHdr → s.io.bin = .byte b :: rest →
    (s.h.idx.toNat < 8 →
        blockStep s = some (.next { s with
          io.bin := rest, h.buf := s.h.buf.setIfInBounds s.h.idx.toNat b, h.idx := s.h.idx + 1 }))
      ∧ (s.h.idx = 8 →
        blockStep s = some (.next { s with
          io.bin := rest, h.buf := s.h.buf.setIfInBounds 8 b, h.idx := 9
          regs.hdrVersion := s.h.buf[0]
          regs.hdrIdent := s.h.buf[4] ++ s.h.buf[3] ++ s.h.buf[2] ++ s.h.buf[1]
          regs.hdrSleep := b ++ s.h.buf[7] ++ s.h.buf[6] ++ s.h.buf[5]
          regs.done := if s.h.buf[0] = 1 then true else s.regs.done
          regs.err := if s.h.buf[0] = 1 then s.regs.err else .unsupportedVersion
          h.fsm := if s.h.buf[0] = 1 then .idle else .error }))

/-- A step in DEC_GEOM on a byte stores it; the eighth one loads the four geometry fields, PAY_LEN and the scan window,
all in that one step, and completes the command when the payload is empty (R148; the byte order is the spec's own
inference, log 8). -/
def Obligations.DecGeomByteStep : Prop :=
  ∀ (s : State) (b : Byte) (rest : List Token), s.h.fsm = .decGeom → s.io.bin = .byte b :: rest →
    (s.h.idx.toNat < 7 →
        blockStep s = some (.next { s with
          io.bin := rest, h.buf := s.h.buf.setIfInBounds s.h.idx.toNat b, h.idx := s.h.idx + 1 }))
      ∧ (s.h.idx = 7 → ∀ (x0 y0 w ht : Half) (v : Window),
        x0 = s.h.buf[1] ++ s.h.buf[0] → y0 = s.h.buf[3] ++ s.h.buf[2] → w = s.h.buf[5] ++ s.h.buf[4] →
        ht = b ++ s.h.buf[6] → v = scanWindow s.extentMode x0 y0 w ht →
        blockStep s = some (.next { s with
          io.bin := rest, h.buf := s.h.buf.setIfInBounds 7 b, h.idx := 8
          regs.x0 := x0, regs.y0 := y0, regs.w := w, regs.ht := ht, regs.payLen := payLenOf v
          h.xs := v.xs, h.xe := v.xe, h.ye := v.ye, h.dx := v.xs, h.dy := v.ys
          regs.done := if payLenOf v = 0 then true else s.regs.done
          h.fsm := if payLenOf v = 0 then .idle else .decPix }))

/-- A step in DEC_GEOM on `End`: after 0 or 1 bytes the clean end of the stream, EOS and DONE set and no geometry
register changed; after more bytes TRUNCATED_STREAM (R149, R222). -/
def Obligations.DecGeomEndStep : Prop :=
  ∀ (s : State) (rest : List Token), s.h.fsm = .decGeom → s.io.bin = .endOfStream :: rest →
    (s.h.idx.toNat < 2 →
        blockStep s = some (.next { s with
          io.bin := rest, regs.eos := true, regs.done := true, h.fsm := .idle }))
      ∧ (2 ≤ s.h.idx.toNat →
        blockStep s = some (.next { s with io.bin := rest, regs.err := .truncatedStream, h.fsm := .error }))

/-- A step in DEC_PIX on a byte emits the left pixel at `(x, y)` and then the right one at `(x+1, y)`, and moves on by two
columns, to the next row at the window's end, and to the end of the command after the last row (R152, R183; that h.dx and
h.dy wrap where State.Inv fails is the model's choice, log 12). -/
def Obligations.DecPixByteStep : Prop :=
  ∀ (s : State) (b : Byte) (rest : List Token), s.h.fsm = .decPix → s.io.bin = .byte b :: rest →
    blockStep s = some (.next { s with
      io.bin := rest
      io.pout := s.io.pout ++ [{ x := s.h.dx, y := s.h.dy, v := b.extractLsb' 0 4 ++ 0#4 },
        { x := s.h.dx + 1, y := s.h.dy, v := b.extractLsb' 4 4 ++ 0#4 }]
      h.dx := if s.h.xe ≤ s.h.dx + 2 then s.h.xs else s.h.dx + 2
      h.dy := if s.h.xe ≤ s.h.dx + 2 then s.h.dy + 1 else s.h.dy
      h.fsm := if s.h.xe ≤ s.h.dx + 2 ∧ s.h.ye ≤ s.h.dy + 1 then .idle else .decPix
      regs.done := if s.h.xe ≤ s.h.dx + 2 ∧ s.h.ye ≤ s.h.dy + 1 then true else s.regs.done })

/-- `End` in DEC_HDR or DEC_PIX raises TRUNCATED_STREAM: the token is consumed, ERR and h.fsm say so, and nothing else
changes, neither the header registers nor what is already on POUT (R125, R153, R222, R225). -/
def Obligations.EndTokenTruncates : Prop :=
  ∀ (s : State) (rest : List Token), s.h.fsm = .decHdr ∨ s.h.fsm = .decPix → s.io.bin = .endOfStream :: rest →
    blockStep s = some (.next { s with io.bin := rest, regs.err := .truncatedStream, h.fsm := .error })

/-- The BLOCK has no step exactly in IDLE, in ERROR, in ENC_PIX with PIN empty and in a DEC_* phase with BIN empty
(R206, R207). -/
def Obligations.NoStepIsEnabledExactlyWhen : Prop :=
  ∀ s : State, s.blockEnabled = false ↔
    s.h.fsm = .idle ∨ s.h.fsm = .error ∨ (s.h.fsm = .encPix ∧ s.io.pin = [])
      ∨ ((s.h.fsm = .decHdr ∨ s.h.fsm = .decGeom ∨ s.h.fsm = .decPix) ∧ s.io.bin = [])

/-! ### Data functions -/

/-- The decode window under each EXTENT_MODE, as exact numbers; it is the same in both when the origin is (0, 0), and
under ABSOLUTE it is empty, so that no byte belongs to it, when `w <= x0` or `ht <= y0` (R150). -/
def Obligations.WindowOfEachExtentMode : Prop :=
  ∀ (x0 y0 w ht : Half) (m : ExtentMode) (v : Window), v = scanWindow m x0 y0 w ht →
    (x0 = 0 → y0 = 0 → v = scanWindow .size x0 y0 w ht)
      ∧ (m = .absolute → w ≤ x0 ∨ ht ≤ y0 → payLenOf v = 0)
      ∧ v.xs.toNat = x0.toNat ∧ v.ys.toNat = y0.toNat
      ∧ v.xe.toNat = (if m = .size then x0.toNat + w.toNat else w.toNat)
      ∧ v.ye.toNat = (if m = .size then y0.toNat + ht.toNat else ht.toNat)

/-- The payload length of a window is `ceil((xe - xs) / 2) * (ye - ys)`, 0 when the window is empty, and at most
0x7FFF8000, which the largest SIZE record has (R151, R37). -/
def Obligations.PayloadLengthIsExact : Prop :=
  ∀ (x0 y0 w ht : Half) (m : ExtentMode) (v : Window), v = scanWindow m x0 y0 w ht →
    (payLenOf v).toNat = (v.xe.toNat - v.xs.toNat + 1) / 2 * (v.ye.toNat - v.ys.toNat)
      ∧ (payLenOf v).toNat ≤ 0x7FFF8000
      ∧ (m = .size → (payLenOf v).toNat = (w.toNat + 1) / 2 * ht.toNat)
      ∧ (m = .size → w.toNat % 2 = 0 → (payLenOf v).toNat = ht.toNat * w.toNat / 2)
      ∧ (m = .size → w = 0xFFFF#16 → ht = 0xFFFF#16 → (payLenOf v).toNat = 0x7FFF8000)

/-- The laws of the pair: unpacking a packed pair clears the low nibbles, and packing an unpacked byte gives it back
(the spec's own inference, 42_nibble_packer.md section 1). -/
def Obligations.PackUnpackLaws : Prop :=
  (∀ p q : Byte, unpackLeft (pack p q) = p &&& 0xF0#8 ∧ unpackRight (pack p q) = q &&& 0xF0#8)
    ∧ ∀ b : Byte, pack (unpackLeft b) (unpackRight b) = b

/-! ### Whole commands, the HOST doing nothing else -/

/-- ENC_HEADER takes nine steps and emits the nine header bytes in order; then it has completed, and every register but
IE and the flags is as before (R121, R122; byte order log 8, empty agenda log 1). -/
def Obligations.EncHeaderEmitsNineBytes : Prop :=
  ∀ (s : State) (ie : Bool), s.h.fsm = .idle → s.host.agenda = [] →
    ∃ a, exec (.encHeader ie) s = .next a
      ∧ Host.Core.run Sys2Proof.core 9 a = .next { s with
        regs.ie := ie, regs.eos := false, regs.done := true, h.idx := 9
        io.bout := s.io.bout ++ headerBytes s.regs.hdrVersion s.regs.hdrIdent s.regs.hdrSleep }

/-- DEC_HEADER on nine bytes takes nine steps, consumes exactly those nine tokens and loads the three fields; it
completes when the version is 1, and raises UNSUPPORTED_VERSION otherwise, whatever the other bytes are (R126; byte
order log 8, empty agenda log 1). -/
def Obligations.DecHeaderLoadsNineBytes : Prop :=
  ∀ (s : State) (ie : Bool) (version : Byte) (identifier sleepSeconds : Word) (rest : List Token),
    s.h.fsm = .idle → s.host.agenda = [] →
    s.io.bin = asTokens (headerBytes version identifier sleepSeconds) ++ rest →
    ∃ a t, exec (.decHeader ie) s = .next a ∧ Host.Core.run Sys2Proof.core 9 a = .next t
      ∧ t.regs = { s.regs with
          ie := ie, eos := false, done := version == 1
          err := if version = 1 then s.regs.err else .unsupportedVersion
          hdrVersion := version, hdrIdent := identifier, hdrSleep := sleepSeconds }
      ∧ t.h.fsm = (if version = 1 then .idle else .error)
      ∧ t.io = { s.io with bin := rest } ∧ t.host = s.host ∧ t.extentMode = s.extentMode

/-- DEC_HEADER with only `k < 9` bytes before `End` consumes `k + 1` tokens and raises TRUNCATED_STREAM, whatever the
version byte is; the header registers keep their values (R125, R230; empty agenda log 1). -/
def Obligations.DecHeaderTruncated : Prop :=
  ∀ (s : State) (ie : Bool) (bs : List Byte) (rest : List Token), s.h.fsm = .idle → s.host.agenda = [] →
    bs.length < 9 → s.io.bin = asTokens bs ++ .endOfStream :: rest →
    ∃ a t, exec (.decHeader ie) s = .next a ∧ Host.Core.run Sys2Proof.core (bs.length + 1) a = .next t
      ∧ t.regs = { s.regs with ie := ie, eos := false, done := false, err := .truncatedStream }
      ∧ t.h.fsm = .error ∧ t.io = { s.io with bin := rest } ∧ t.host = s.host ∧ t.extentMode = s.extentMode

/-- The header round trip: what one block's ENC_HEADER emits, another block's DEC_HEADER loads, bit for bit, and completes
exactly when VERSION was 1 (the spec's own inference, 40_header_marshaller.md section 3; empty agenda log 1). -/
def Obligations.HeaderRoundTrip : Prop :=
  ∀ (s r a e : State) (ie ie' : Bool) (rest : List Token),
    s.h.fsm = .idle → s.host.agenda = [] → exec (.encHeader ie) s = .next a →
    Host.Core.run Sys2Proof.core 9 a = .next e → r.h.fsm = .idle → r.host.agenda = [] →
    r.io.bin = asTokens (e.io.bout.drop s.io.bout.length) ++ rest →
    ∃ c t, exec (.decHeader ie') r = .next c ∧ Host.Core.run Sys2Proof.core 9 c = .next t
      ∧ t.regs.hdrVersion = s.regs.hdrVersion ∧ t.regs.hdrIdent = s.regs.hdrIdent
      ∧ t.regs.hdrSleep = s.regs.hdrSleep ∧ t.io.bin = rest
      ∧ (s.regs.hdrVersion = 1 → t.h.fsm = .idle ∧ t.regs.done = true)
      ∧ (s.regs.hdrVersion ≠ 1 → t.h.fsm = .error ∧ t.regs.err = .unsupportedVersion)

/-- ENC_RECORD in closed form: it takes `8 + W*H` steps, consumes exactly `W*H` samples and emits the descriptor and then
one byte for each pair of samples; W = 0 and H = 0 included (the spec's own inference, 41_sub_image_framer.md
section 2; byte order log 8, empty agenda log 1). -/
def Obligations.EncRecordEmitsDescriptorAndPayload : Prop :=
  ∀ (s : State) (ie : Bool) (samples rest : List Byte), s.h.fsm = .idle → s.host.agenda = [] →
    s.regs.w.toNat ≤ 960 → s.regs.ht.toNat ≤ 540 → s.regs.w.toNat % 2 = 0 →
    samples.length = s.regs.w.toNat * s.regs.ht.toNat → s.io.pin = samples ++ rest →
    ∃ a t, exec (.encRecord ie) s = .next a ∧ Host.Core.run Sys2Proof.core (8 + samples.length) a = .next t
      ∧ t.regs = { s.regs with ie := ie, eos := false, done := true, payLen := t.regs.payLen }
      ∧ t.regs.payLen.toNat = s.regs.w.toNat / 2 * s.regs.ht.toNat
      ∧ t.h.fsm = .idle
      ∧ t.io = { s.io with
          pin := rest
          bout := s.io.bout ++ geometryBytes s.regs.x0 s.regs.y0 s.regs.w s.regs.ht ++ payloadBytes samples }
      ∧ t.host = s.host ∧ t.extentMode = s.extentMode

/-- ENC_RECORD with too few samples holds in ENC_PIX, BUSY and without an error, PIN empty, having emitted the descriptor
and one byte for each whole pair (R257; byte order log 8, empty agenda log 1; that the step of a held BLOCK changes
nothing is log 3). -/
def Obligations.EncRecordHoldsWithoutSamples : Prop :=
  ∀ (s : State) (ie : Bool), s.h.fsm = .idle → s.regs.err = .none → s.host.agenda = [] →
    s.regs.w.toNat ≤ 960 → s.regs.ht.toNat ≤ 540 → s.regs.w.toNat % 2 = 0 →
    s.io.pin.length < s.regs.w.toNat * s.regs.ht.toNat →
    ∃ a t, exec (.encRecord ie) s = .next a ∧ Host.Core.run Sys2Proof.core (8 + s.io.pin.length) a = .next t
      ∧ t.h.fsm = .encPix ∧ t.busy = true ∧ t.regs.err = .none ∧ t.io.pin = [] ∧ t.Held ∧ step t = .next t
      ∧ t.io.bout
          = s.io.bout ++ geometryBytes s.regs.x0 s.regs.y0 s.regs.w s.regs.ht ++ payloadBytes s.io.pin

/-- DEC_RECORD in closed form, under either EXTENT_MODE: on a descriptor and exactly PAY_LEN payload bytes it takes
`8 + PAY_LEN` steps, consumes exactly those tokens, loads the geometry and writes two pixels a byte in row-major order;
every geometry is accepted (R148, R152, the boundary is the spec's own inference in 41_sub_image_framer.md section 3; byte
order log 8, empty agenda log 1). -/
def Obligations.DecRecordPaintsItsWindow : Prop :=
  ∀ (s : State) (ie : Bool) (x0 y0 w ht : Half) (v : Window) (payload : List Byte) (rest : List Token),
    s.h.fsm = .idle → s.host.agenda = [] → v = scanWindow s.extentMode x0 y0 w ht →
    payload.length = (payLenOf v).toNat →
    s.io.bin = asTokens (geometryBytes x0 y0 w ht ++ payload) ++ rest →
    ∃ a t, exec (.decRecord ie) s = .next a ∧ Host.Core.run Sys2Proof.core (8 + payload.length) a = .next t
      ∧ t.regs = { s.regs with
          ie := ie, eos := false, done := true, x0 := x0, y0 := y0, w := w, ht := ht, payLen := payLenOf v }
      ∧ t.h.fsm = .idle
      ∧ t.io = { s.io with
          bin := rest, pout := s.io.pout ++ writesOfPayload v.xs v.ys (bytesPerRow v) payload }
      ∧ t.host = s.host ∧ t.extentMode = s.extentMode

/-- DEC_RECORD at the clean end of the stream: 0 or 1 bytes before `End` give EOS and DONE, no error, the geometry
registers and PAY_LEN unchanged, and nothing on POUT (R149; empty agenda log 1). -/
def Obligations.DecRecordCleanEnd : Prop :=
  ∀ (s : State) (ie : Bool) (bs : List Byte) (rest : List Token), s.h.fsm = .idle → s.host.agenda = [] →
    bs.length ≤ 1 → s.io.bin = asTokens bs ++ .endOfStream :: rest →
    ∃ a t, exec (.decRecord ie) s = .next a ∧ Host.Core.run Sys2Proof.core (bs.length + 1) a = .next t
      ∧ t.regs = { s.regs with ie := ie, eos := true, done := true }
      ∧ t.h.fsm = .idle ∧ t.io = { s.io with bin := rest } ∧ t.host = s.host ∧ t.extentMode = s.extentMode

/-- DEC_RECORD cut off inside the descriptor: 2 to 7 bytes before `End` raise TRUNCATED_STREAM, the geometry registers
and PAY_LEN unchanged (R149, R222; empty agenda log 1). -/
def Obligations.DecRecordTruncatedInDescriptor : Prop :=
  ∀ (s : State) (ie : Bool) (bs : List Byte) (rest : List Token), s.h.fsm = .idle → s.host.agenda = [] →
    2 ≤ bs.length → bs.length ≤ 7 → s.io.bin = asTokens bs ++ .endOfStream :: rest →
    ∃ a t, exec (.decRecord ie) s = .next a ∧ Host.Core.run Sys2Proof.core (bs.length + 1) a = .next t
      ∧ t.regs = { s.regs with ie := ie, eos := false, done := false, err := .truncatedStream }
      ∧ t.h.fsm = .error ∧ t.io = { s.io with bin := rest } ∧ t.host = s.host ∧ t.extentMode = s.extentMode

/-- DEC_RECORD cut off inside the payload raises TRUNCATED_STREAM; the writes already emitted stay on POUT, and the
geometry registers hold the truncated record's (R153, R228; byte order log 8, empty agenda log 1). -/
def Obligations.DecRecordTruncatedInPayload : Prop :=
  ∀ (s : State) (ie : Bool) (x0 y0 w ht : Half) (v : Window) (payload : List Byte) (rest : List Token),
    s.h.fsm = .idle → s.host.agenda = [] → v = scanWindow s.extentMode x0 y0 w ht →
    payload.length < (payLenOf v).toNat →
    s.io.bin = asTokens (geometryBytes x0 y0 w ht ++ payload) ++ .endOfStream :: rest →
    ∃ a t, exec (.decRecord ie) s = .next a ∧ Host.Core.run Sys2Proof.core (8 + payload.length + 1) a = .next t
      ∧ t.regs = { s.regs with
          ie := ie, eos := false, done := false, err := .truncatedStream
          x0 := x0, y0 := y0, w := w, ht := ht, payLen := payLenOf v }
      ∧ t.h.fsm = .error
      ∧ t.io = { s.io with
          bin := rest, pout := s.io.pout ++ writesOfPayload v.xs v.ys (bytesPerRow v) payload }
      ∧ t.host = s.host ∧ t.extentMode = s.extentMode

/-- The record round trip: what one block's ENC_RECORD emits, another block's DEC_RECORD paints as the source image with
the low nibbles cleared, each pixel of `[x0, x0+W) x [y0, y0+H)` exactly once, under SIZE for any origin and under
ABSOLUTE for the origin (0, 0), both with an empty agenda (log 1); when every sample is a multiple of 16 the painted
values are the samples (the spec's own
inference, 41_sub_image_framer.md section 3). -/
def Obligations.RecordRoundTrip : Prop :=
  ∀ (s r a e : State) (ie ie' : Bool) (samples rest : List Byte) (rest' : List Token),
    s.h.fsm = .idle → s.host.agenda = [] →
    s.regs.w.toNat ≤ 960 → s.regs.ht.toNat ≤ 540 → s.regs.w.toNat % 2 = 0 →
    samples.length = s.regs.w.toNat * s.regs.ht.toNat → s.io.pin = samples ++ rest →
    exec (.encRecord ie) s = .next a → Host.Core.run Sys2Proof.core (8 + samples.length) a = .next e →
    r.h.fsm = .idle → r.host.agenda = [] →
    (r.extentMode = .size ∨ (s.regs.x0 = 0 ∧ s.regs.y0 = 0)) →
    r.io.bin = asTokens (e.io.bout.drop s.io.bout.length) ++ rest' →
    ∃ c t, exec (.decRecord ie') r = .next c
      ∧ Host.Core.run Sys2Proof.core (8 + s.regs.w.toNat / 2 * s.regs.ht.toNat) c = .next t
      ∧ t.h.fsm = .idle ∧ t.regs.done = true ∧ t.io.bin = rest'
      ∧ t.io.pout = r.io.pout ++ paintedImage s.regs.x0 s.regs.y0 s.regs.w samples
      ∧ ((paintedImage s.regs.x0 s.regs.y0 s.regs.w samples).map fun q => (q.x, q.y)).Nodup
      ∧ ((∀ p ∈ samples, p.toNat % 16 = 0) →
          (paintedImage s.regs.x0 s.regs.y0 s.regs.w samples).map (·.v) = samples)

/-! ### Invariants and whole-machine rules -/

/-- The invariant holds right after reset (R43). -/
def Obligations.ResetMeetsTheInvariant : Prop := State.reset.Inv

/-- Every step keeps the invariant: the flags agree with the phase (R26, R28), h.idx stays inside its record (R40), an
encode stays inside a legal image (R142, R145), a decode inside its window (R150, R152), PAY_LEN within 0x7FFF8000
(R37), DP_RESULT[31:16] at 0 (R36). -/
def Obligations.EveryStepKeepsTheInvariant : Prop :=
  ∀ s t : State, s.Inv → step s = .next t → t.Inv

/-- From a state that meets the invariant every step answers a next state: no access and no command stalls or faults
(R60; the fault that is ruled out is log 6). -/
def Obligations.NoStepFaultsOrRefuses : Prop := ∀ s : State, s.Inv → ∃ t, step s = .next t

/-- Only reset leaves ERROR: until then ERR keeps the first error, DONE, EOS, DP_RESULT, PAY_LEN, the hidden state and the
output streams stand still, and no input is consumed (R206, R232, and the spec's own inference in 60_exceptions.md
section 3; that the HOST takes nothing out of BIN and PIN either is log 15). -/
def Obligations.ErrorIsTerminalUntilReset : Prop :=
  ∀ s t : State, s.h.fsm = .error → step s = .next t → s.resetNext = false →
    t.h = s.h ∧ t.regs.err = s.regs.err ∧ t.regs.done = s.regs.done ∧ t.regs.eos = s.regs.eos
      ∧ t.regs.dpResult = s.regs.dpResult ∧ t.regs.payLen = s.regs.payLen
      ∧ t.io.bout = s.io.bout ∧ t.io.pout = s.io.pout ∧ s.io.bin <+: t.io.bin ∧ s.io.pin <+: t.io.pin

/-- Entering ERROR: the code is not NONE, DONE and EOS are 0 and BUSY is 0; the only ways in are a command accepted in IDLE
and a BLOCK step of a command in progress (R225). -/
def Obligations.ErrorEntryLatchesACode : Prop :=
  ∀ s t : State, s.Inv → s.h.fsm ≠ .error → step s = .next t → t.h.fsm = .error →
    s.regs.err = .none ∧ t.regs.err ≠ .none ∧ t.regs.done = false ∧ t.regs.eos = false ∧ t.busy = false
      ∧ ((s.commandNext = true ∧ s.h.fsm = .idle) ∨ (s.blockNext = true ∧ s.busy = true))

/-- A command in progress takes a bounded number of BLOCK steps: each enabled step brings the bound down, and in a state
that meets the invariant the bound is 0 exactly when no command is in progress (the spec's own inference,
70_reset_and_hazards.md section 5). -/
def Obligations.BlockStepsAreBounded : Prop :=
  (∀ s t : State, s.Inv → blockStep s = some (.next t) → t.stepsLeft < s.stepsLeft)
    ∧ ∀ s : State, s.Inv → (s.stepsLeft = 0 ↔ s.busy = false)

/-- Each flag changes only for the causes R41 lists: DONE is set by the end of a command, EOS by a BLOCK step, both are
cleared by acceptance or reset; CMD_DROP is set by a command outside IDLE and cleared by a STATUS write with bit 9 or
reset; ERR is set by a command or a BLOCK step and cleared by reset alone. IE changes by reset or by a CTRL write with
bit 31 = 0, to its bit 8 (R205). -/
def Obligations.FlagsChangeForTheirCauses : Prop :=
  ∀ s t : State, step s = .next t →
    (s.regs.done = false → t.regs.done = true →
        t.h.fsm = .idle ∧ ((s.commandNext = true ∧ s.h.fsm = .idle) ∨ (s.blockNext = true ∧ s.busy = true)))
      ∧ (s.regs.eos = false → t.regs.eos = true → s.blockNext = true ∧ s.h.fsm = .decGeom ∧ t.regs.done = true)
      ∧ ((s.regs.done = true ∧ t.regs.done = false) ∨ (s.regs.eos = true ∧ t.regs.eos = false) →
        s.resetNext = true ∨ (s.commandNext = true ∧ s.h.fsm = .idle))
      ∧ (s.regs.cmdDrop = false → t.regs.cmdDrop = true → s.commandNext = true ∧ s.h.fsm ≠ .idle)
      ∧ (s.regs.cmdDrop = true → t.regs.cmdDrop = false →
        s.resetNext = true ∨ ∃ a d rest, s.host.agenda = .host (.regWrite a d) :: rest ∧ a &&& 0x3C#6 = 0x04#6
          ∧ d.getLsbD 9 = true)
      ∧ (t.regs.err ≠ s.regs.err → s.resetNext = true
        ∨ (t.regs.err ≠ .none ∧ t.h.fsm = .error ∧ (s.commandNext = true ∨ s.blockNext = true)))
      ∧ (t.regs.ie ≠ s.regs.ie → s.resetNext = true ∨ ∃ a d rest,
        s.host.agenda = .host (.regWrite a d) :: rest ∧ a &&& 0x3C#6 = 0x00#6 ∧ d.getLsbD 31 = false
          ∧ t.regs.ie = d.getLsbD 8)

/-- Who writes the read-only registers: DP_RESULT changes only by a command accepted in IDLE or reset (R36); PAY_LEN only
by a command accepted in IDLE, by the step that takes the eighth geometry byte, or by reset (R37). -/
def Obligations.ReadOnlyRegistersChangeForTheirCauses : Prop :=
  ∀ s t : State, step s = .next t →
    (t.regs.dpResult ≠ s.regs.dpResult → s.resetNext = true ∨ ∃ a d rest,
        s.host.agenda = .host (.regWrite a d) :: rest ∧ a &&& 0x3C#6 = 0x00#6 ∧ s.h.fsm = .idle
          ∧ (decode d = .pack (d.getLsbD 8) ∨ decode d = .unpack (d.getLsbD 8)))
      ∧ (t.regs.payLen ≠ s.regs.payLen → s.resetNext = true
        ∨ (∃ a d rest, s.host.agenda = .host (.regWrite a d) :: rest ∧ a &&& 0x3C#6 = 0x00#6 ∧ s.h.fsm = .idle
          ∧ decode d = .encRecord (d.getLsbD 8))
        ∨ (s.blockNext = true ∧ s.h.fsm = .decGeom ∧ s.h.idx = 7 ∧ t.h.idx = 8))

/-! ### Register port -/

/-- Register writes that are ignored: to an RW data register while BUSY, and to DP_RESULT, PAY_LEN and the reserved
offsets at any time (R38, R62, R261). -/
def Obligations.IgnoredRegisterWrites : Prop :=
  ∀ (s : State) (a : Addr) (d : Word) (rest : List Turn), s.host.agenda = .host (.regWrite a d) :: rest →
    (s.busy = true ∧ 0x08 ≤ (a &&& 0x3C#6).toNat) ∨ 0x20 ≤ (a &&& 0x3C#6).toNat →
      step s = .next { s with host.agenda := rest }

/-- A write of an RW data register while not BUSY: the register then reads as the data masked to its defined fields, every
other register reads as before, and the hidden state, the streams and the HOST's side stay (R30 to R35, R61, R62). -/
def Obligations.DataRegisterWriteReadsBack : Prop :=
  ∀ (s : State) (a : Addr) (d mask : Word) (rest : List Turn), s.host.agenda = .host (.regWrite a d) :: rest →
    s.busy = false →
    (a &&& 0x3C#6, mask) ∈ [(0x08#6, 0x000000FF#32), (0x0C#6, 0xFFFFFFFF#32), (0x10#6, 0xFFFFFFFF#32),
      (0x14#6, 0xFFFFFFFF#32), (0x18#6, 0xFFFFFFFF#32), (0x1C#6, 0x0000FFFF#32)] →
    ∃ t, step s = .next t ∧ (∀ b : Addr, b &&& 0x3C#6 = a &&& 0x3C#6 → t.regRead b = d &&& mask)
      ∧ (∀ b : Addr, b &&& 0x3C#6 ≠ a &&& 0x3C#6 → t.regRead b = s.regRead b)
      ∧ t.h = s.h ∧ t.io = s.io ∧ t.host = { s.host with agenda := rest } ∧ t.extentMode = s.extentMode

/-- A write of STATUS clears CMD_DROP if bit 9 is 1, and has no other effect (R29, R62). -/
def Obligations.StatusWriteClearsOnlyCmdDrop : Prop :=
  ∀ (s : State) (a : Addr) (d : Word) (rest : List Turn), s.host.agenda = .host (.regWrite a d) :: rest →
    a &&& 0x3C#6 = 0x04#6 →
      step s = .next { s with
        host.agenda := rest, regs.cmdDrop := if d.getLsbD 9 then false else s.regs.cmdDrop }

/-- A register read has no side effect; it returns the register at `addr & 0x3C`, and 0 for a reserved offset (R38, R60,
R61, R62; that the HOST keeps what it read is log 4). -/
def Obligations.RegisterReadIsPure : Prop :=
  (∀ (s : State) (a : Addr) (rest : List Turn), s.host.agenda = .host (.regRead a) :: rest →
      step s = .next { s with host.agenda := rest, host.readData := s.host.readData ++ [s.regRead a] })
    ∧ (∀ (s : State) (a : Addr), s.regRead a = s.regRead (a &&& 0x3C#6))
    ∧ ∀ (s : State) (a : Addr), 0x28 ≤ (a &&& 0x3C#6).toNat → s.regRead a = 0

/-- What each register reads as: the fields of STATUS and CTRL in their places, the reserved bits 0, and the wire fields
packed as R99 says; the codes of STATE and ERR are those of R39 and R220 (R23, R24, R25, R30 to R37). -/
def Obligations.RegistersReadTheirFields : Prop :=
  [Phase.idle, .encHdr, .encGeom, .encPix, .decHdr, .decGeom, .decPix, .error].map Phase.code = [0, 1, 2, 3, 4, 5, 6, 7]
    ∧ [ErrCode.none, .unsupportedVersion, .truncatedStream, .invalidGeometry, .dimensionTooLarge, .illegalCommand].map
        ErrCode.code = [0, 1, 2, 3, 4, 5]
    ∧ ∀ s : State,
    (s.regRead 0x00 = if s.regs.ie then 0x00000100#32 else 0)
      ∧ (s.regRead 0x04).extractLsb' 0 3 = s.h.fsm.code
      ∧ ((s.regRead 0x04).getLsbD 3 = true ↔ s.h.fsm ≠ .idle ∧ s.h.fsm ≠ .error)
      ∧ (s.regRead 0x04).extractLsb' 4 3 = s.regs.err.code
      ∧ (s.regRead 0x04).getLsbD 7 = s.regs.eos ∧ (s.regRead 0x04).getLsbD 8 = s.regs.done
      ∧ (s.regRead 0x04).getLsbD 9 = s.regs.cmdDrop ∧ (s.regRead 0x04).extractLsb' 10 22 = 0
      ∧ (s.regRead 0x08).toNat = s.regs.hdrVersion.toNat
      ∧ s.regRead 0x0C = s.regs.hdrIdent ∧ s.regRead 0x10 = s.regs.hdrSleep
      ∧ (s.regRead 0x14).toNat = s.regs.y0.toNat * 2 ^ 16 + s.regs.x0.toNat
      ∧ (s.regRead 0x18).toNat = s.regs.ht.toNat * 2 ^ 16 + s.regs.w.toNat
      ∧ (s.regRead 0x1C).toNat = s.regs.po.toNat * 2 ^ 8 + s.regs.pe.toNat
      ∧ s.regRead 0x20 = s.regs.dpResult ∧ s.regRead 0x24 = s.regs.payLen

/-- The interrupt output: 1 exactly when IE is 1 and DONE, EOS or an error is there, as the HOST reads them from CTRL and
STATUS (R235). -/
def Obligations.InterruptIsALevelOfTheFlags : Prop :=
  ∀ s : State, s.irq = true ↔
    (s.regRead 0x00).getLsbD 8 = true
      ∧ ((s.regRead 0x04).getLsbD 8 = true ∨ (s.regRead 0x04).getLsbD 7 = true ∨ (s.regRead 0x04).extractLsb' 4 3 ≠ 0)

/-! ### Streams and order -/

/-- The output streams only grow, reset or error notwithstanding: a step appends nothing to BOUT or one byte, and nothing
to POUT or exactly two records; EXTENT_MODE never changes (R66, R67, R228, R252; EXTENT_MODE in State is log 2). -/
def Obligations.OutputsOnlyGrow : Prop :=
  ∀ s t : State, step s = .next t →
    (t.io.bout = s.io.bout ∨ (∃ b, t.io.bout = s.io.bout ++ [b] ∧ s.blockNext = true
        ∧ (s.h.fsm = .encHdr ∨ s.h.fsm = .encGeom ∨ s.h.fsm = .encPix)))
      ∧ (t.io.pout = s.io.pout ∨ (∃ l r, t.io.pout = s.io.pout ++ [l, r] ∧ s.blockNext = true ∧ s.h.fsm = .decPix))
      ∧ t.extentMode = s.extentMode

/-- The input streams are FIFOs: a step leaves one as it is, or takes its head in a phase that reads it, or appends one
element at its tail by the HOST's action (R64, R65; that the HOST only appends is log 15). -/
def Obligations.InputsAreFifos : Prop :=
  ∀ s t : State, step s = .next t →
    (t.io.bin = s.io.bin
        ∨ (∃ x, s.io.bin = x :: t.io.bin ∧ s.blockNext = true
          ∧ (s.h.fsm = .decHdr ∨ s.h.fsm = .decGeom ∨ s.h.fsm = .decPix))
        ∨ ∃ x rest, t.io.bin = s.io.bin ++ [x] ∧ s.host.agenda = .host (.binAppend x) :: rest)
      ∧ (t.io.pin = s.io.pin
        ∨ (∃ p, s.io.pin = p :: t.io.pin ∧ s.blockNext = true ∧ s.h.fsm = .encPix)
        ∨ ∃ p rest, t.io.pin = s.io.pin ++ [p] ∧ s.host.agenda = .host (.pinAppend p) :: rest)

/-- The order of a HOST append and an enabled BLOCK step does not matter: the BLOCK is deterministic given its input
streams (R207). -/
def Obligations.AppendsCommuteWithBlockSteps : Prop :=
  ∀ (s t : State) (x : Token) (p : Byte), blockStep s = some (.next t) →
    blockStep (s.binAppend x) = some (.next (t.binAppend x))
      ∧ blockStep (s.pinAppend p) = some (.next (t.pinAppend p))

/-- A run that has ended, turns of the BLOCK still on the agenda or not, has ended well, is held or has failed, exactly
one of the three, and its step changes nothing but to take such a turn off (R208; the step of an ended run is log 3). -/
def Obligations.AnEndedRunIsOneOfThree : Prop :=
  ∀ s : State, s.Inv → s.Ended →
    (s.EndedWell ∨ s.Held ∨ s.Failed) ∧ ¬(s.EndedWell ∧ s.Held) ∧ ¬(s.EndedWell ∧ s.Failed) ∧ ¬(s.Held ∧ s.Failed)
      ∧ step s = .next { s with host.agenda := s.host.agenda.tail } ∧ (s.host.agenda = [] → step s = .next s)

/-- Nothing wraps: in a state that meets the invariant, the sums that a BLOCK step stores in h.idx, h.col, h.row, h.dx and
h.dy are exact (the spec's own inference, 00_scope.md section 5 and 41_sub_image_framer.md section 3; log 12). -/
def Obligations.StoredSumsDoNotWrap : Prop :=
  ∀ s : State, s.Inv →
    (s.h.idx + 1).toNat = s.h.idx.toNat + 1
      ∧ (s.h.fsm = .encPix →
        (s.h.col + 1).toNat = s.h.col.toNat + 1 ∧ (s.h.row + 1).toNat = s.h.row.toNat + 1)
      ∧ (s.h.fsm = .decPix →
        (s.h.dx + 1).toNat = s.h.dx.toNat + 1 ∧ (s.h.dx + 2).toNat = s.h.dx.toNat + 2
          ∧ s.h.dx.toNat + 2 ≤ s.h.xe.toNat + 1 ∧ (s.h.dy + 1).toNat = s.h.dy.toNat + 1)

/-- What the block paints on the HOST's canvas: a DEC_PIX step sets the two pixels of its byte, over whatever was there;
no other step changes a pixel; a whole record sets each pixel of its window and of its pad column and keeps every other
one, so that the later record wins; and a position that no write reaches keeps the pre-fill 255 (the spec's own inference,
41_sub_image_framer.md section 3; the canvas is log 13, byte order log 8, empty agenda log 1, wrapped sums log 12). -/
def Obligations.LaterWriteWinsOnTheCanvas : Prop :=
  (∀ (s t : State) (b : Byte) (rest : List Token) (x y : Coord), s.h.fsm = .decPix → s.io.bin = .byte b :: rest →
      blockStep s = some (.next t) →
        canvasAt t.io.pout x y =
          if x = s.h.dx + 1 ∧ y = s.h.dy then b.extractLsb' 4 4 ++ 0#4
          else if x = s.h.dx ∧ y = s.h.dy then b.extractLsb' 0 4 ++ 0#4
          else canvasAt s.io.pout x y)
    ∧ (∀ (s t : State) (x y : Coord), step s = .next t → canvasAt t.io.pout x y ≠ canvasAt s.io.pout x y →
        s.blockNext = true ∧ s.h.fsm = .decPix ∧ (x = s.h.dx ∨ x = s.h.dx + 1) ∧ y = s.h.dy)
    ∧ (∀ (s : State) (ie : Bool) (x0 y0 w ht : Half) (v : Window) (payload : List Byte) (rest : List Token),
        s.h.fsm = .idle → s.host.agenda = [] → v = scanWindow s.extentMode x0 y0 w ht →
        payload.length = (payLenOf v).toNat →
        s.io.bin = asTokens (geometryBytes x0 y0 w ht ++ payload) ++ rest →
        ∃ a t, exec (.decRecord ie) s = .next a ∧ Host.Core.run Sys2Proof.core (8 + payload.length) a = .next t
          ∧ (∀ (k : Nat) (b : Byte), payload[k]? = some b → ∀ x y : Coord,
              x.toNat = v.xs.toNat + 2 * (k % bytesPerRow v) → y.toNat = v.ys.toNat + k / bytesPerRow v →
                canvasAt t.io.pout x y = b.extractLsb' 0 4 ++ 0#4
                  ∧ canvasAt t.io.pout (x + 1) y = b.extractLsb' 4 4 ++ 0#4)
          ∧ ∀ x y : Coord,
            ¬(v.xs.toNat ≤ x.toNat ∧ x.toNat < v.xs.toNat + 2 * bytesPerRow v
              ∧ v.ys.toNat ≤ y.toNat ∧ y.toNat < v.ye.toNat) →
              canvasAt t.io.pout x y = canvasAt s.io.pout x y)
    ∧ ∀ (s : State) (x y : Coord), (∀ p ∈ s.io.pout, ¬(p.x = x ∧ p.y = y)) → canvasAt s.io.pout x y = 255

/-- The HOST reads BOUT and POUT from the head, in order: a read moves on by one while something is left and changes
nothing else (R66, R67; the count is log 5). -/
def Obligations.HostReadsOutputsInOrder : Prop :=
  ∀ (s : State) (rest : List Turn),
    (s.host.agenda = .host .boutTake :: rest → step s = .next { s with
        host.agenda := rest
        host.boutTaken := if s.host.boutTaken < s.io.bout.length then s.host.boutTaken + 1 else s.host.boutTaken })
      ∧ (s.host.agenda = .host .poutTake :: rest → step s = .next { s with
        host.agenda := rest
        host.poutTaken := if s.host.poutTaken < s.io.pout.length then s.host.poutTaken + 1 else s.host.poutTaken })

/-- The HOST's appends: a token at BIN's tail, a sample at PIN's tail, and nothing else (R64, R65). -/
def Obligations.HostAppendsAtTheTail : Prop :=
  ∀ (s : State) (x : Token) (p : Byte) (rest : List Turn),
    (s.host.agenda = .host (.binAppend x) :: rest →
        step s = .next { s with host.agenda := rest, io.bin := s.io.bin ++ [x] })
      ∧ (s.host.agenda = .host (.pinAppend p) :: rest →
        step s = .next { s with host.agenda := rest, io.pin := s.io.pin ++ [p] })
end

