-- ==== Sys2Proof/Laws/Operands.lean ====
section
/-! SUPPORT. The data functions against the wire format in closed form: header and geometry bytes, little-endian
assembly, and the nibble packer. -/

namespace Sys2Proof.Machine

/-! ### Little-endian fields -/

/-- Disassembling a 16-bit field and assembling it again (R98). -/
@[simp] theorem le16_byteK (v : Half) : le16 (byteK 0 v) (byteK 1 v) = v := by
  apply BitVec.eq_of_getLsbD_eq
  intro i hi
  interval_cases i <;> simp [le16, byteK]

/-- Disassembling a 32-bit field and assembling it again (R98). -/
@[simp] theorem le32_byteK (v : Word) : le32 (byteK 0 v) (byteK 1 v) (byteK 2 v) (byteK 3 v) = v := by
  apply BitVec.eq_of_getLsbD_eq
  intro i hi
  interval_cases i <;> simp [le32, byteK]

/-! ### Header and geometry bytes -/

/-- `hdr_byte(i)` is byte `i` of the header in stream order, and there is none past the ninth (R94, R120). -/
theorem hdrByte_eq (r : Regs) (i : Nat) :
    hdrByte r i = (headerBytes r.hdrVersion r.hdrIdent r.hdrSleep)[i]? := by
  rcases Nat.lt_or_ge i 9 with h | h
  · interval_cases i <;> rfl
  · obtain ⟨k, rfl⟩ := Nat.exists_eq_add_of_le h
    rw [List.getElem?_eq_none (by simp [headerBytes]), Nat.add_comm]
    rfl

/-- `geom_byte(i)` is byte `i` of the descriptor in stream order, and there is none past the eighth (R95, R141). -/
theorem geomByte_eq (r : Regs) (i : Nat) : geomByte r i = (geometryBytes r.x0 r.y0 r.w r.ht)[i]? := by
  rcases Nat.lt_or_ge i 8 with h | h
  · interval_cases i <;> rfl
  · obtain ⟨k, rfl⟩ := Nat.exists_eq_add_of_le h
    rw [List.getElem?_eq_none (by simp [geometryBytes]), Nat.add_comm]
    rfl

/-! ### The nibble packer -/

/-- `pack` puts the right pixel's top bits over the left one's (R96, R182). -/
theorem pack_eq (l r : Byte) : pack l r = payloadByte l r := by
  apply BitVec.eq_of_getLsbD_eq
  intro i hi
  rw [pack, payloadByte, BitVec.getLsbD_append]
  interval_cases i <;> simp

/-- What a step in phase ENC_PIX emits is `pack` of the pair (R145, R182). -/
theorem quant_append_quant (l r : Byte) : quant r ++ quant l = pack l r := by
  rw [pack_eq]; rfl

/-- The left pixel is the low nibble with four 0 bits below it (R183). -/
theorem unpackLeft_eq (b : Byte) : unpackLeft b = b.extractLsb' 0 4 ++ 0#4 := by
  apply BitVec.eq_of_getLsbD_eq
  intro i hi
  rw [unpackLeft, BitVec.getLsbD_append]
  interval_cases i <;> simp

/-- The right pixel is the high nibble with four 0 bits below it (R183). -/
theorem unpackRight_eq (b : Byte) : unpackRight b = b.extractLsb' 4 4 ++ 0#4 := by
  apply BitVec.eq_of_getLsbD_eq
  intro i hi
  rw [unpackRight, BitVec.getLsbD_append]
  interval_cases i <;> simp

end Sys2Proof.Machine
end

