-- ==== Sys2Proof/Laws/State.lean ====
section
/-! SUPPORT. What each named update of State leaves in each field, by definition. A part of State (registers, hidden
state, streams, HOST side) that an update leaves alone has one lemma; in a part it changes, each field has one. -/

namespace Sys2Proof.Machine

variable (s : State)

/-! ### boutPush -/

@[simp] theorem State.boutPush_extentMode (b : Byte) : (s.boutPush b).extentMode = s.extentMode := rfl
@[simp] theorem State.boutPush_regs (b : Byte) : (s.boutPush b).regs = s.regs := rfl
@[simp] theorem State.boutPush_h (b : Byte) : (s.boutPush b).h = s.h := rfl
@[simp] theorem State.boutPush_io_bin (b : Byte) : (s.boutPush b).io.bin = s.io.bin := rfl
@[simp] theorem State.boutPush_io_pin (b : Byte) : (s.boutPush b).io.pin = s.io.pin := rfl
@[simp] theorem State.boutPush_io_bout (b : Byte) : (s.boutPush b).io.bout = s.io.bout ++ [b] := rfl
@[simp] theorem State.boutPush_io_pout (b : Byte) : (s.boutPush b).io.pout = s.io.pout := rfl
@[simp] theorem State.boutPush_host (b : Byte) : (s.boutPush b).host = s.host := rfl

/-! ### poutPush -/

@[simp] theorem State.poutPush_extentMode (x y : Coord) (v : Byte) : (s.poutPush x y v).extentMode = s.extentMode := rfl
@[simp] theorem State.poutPush_regs (x y : Coord) (v : Byte) : (s.poutPush x y v).regs = s.regs := rfl
@[simp] theorem State.poutPush_h (x y : Coord) (v : Byte) : (s.poutPush x y v).h = s.h := rfl
@[simp] theorem State.poutPush_io_bin (x y : Coord) (v : Byte) : (s.poutPush x y v).io.bin = s.io.bin := rfl
@[simp] theorem State.poutPush_io_pin (x y : Coord) (v : Byte) : (s.poutPush x y v).io.pin = s.io.pin := rfl
@[simp] theorem State.poutPush_io_bout (x y : Coord) (v : Byte) : (s.poutPush x y v).io.bout = s.io.bout := rfl
@[simp] theorem State.poutPush_io_pout (x y : Coord) (v : Byte) : (s.poutPush x y v).io.pout = s.io.pout ++ [{ x := x, y := y, v := v }] := rfl
@[simp] theorem State.poutPush_host (x y : Coord) (v : Byte) : (s.poutPush x y v).host = s.host := rfl

/-! ### finish -/

@[simp] theorem State.finish_extentMode : s.finish.extentMode = s.extentMode := rfl
@[simp] theorem State.finish_regs_ie : s.finish.regs.ie = s.regs.ie := rfl
@[simp] theorem State.finish_regs_err : s.finish.regs.err = s.regs.err := rfl
@[simp] theorem State.finish_regs_eos : s.finish.regs.eos = s.regs.eos := rfl
@[simp] theorem State.finish_regs_done : s.finish.regs.done = true := rfl
@[simp] theorem State.finish_regs_cmdDrop : s.finish.regs.cmdDrop = s.regs.cmdDrop := rfl
@[simp] theorem State.finish_regs_hdrVersion : s.finish.regs.hdrVersion = s.regs.hdrVersion := rfl
@[simp] theorem State.finish_regs_hdrIdent : s.finish.regs.hdrIdent = s.regs.hdrIdent := rfl
@[simp] theorem State.finish_regs_hdrSleep : s.finish.regs.hdrSleep = s.regs.hdrSleep := rfl
@[simp] theorem State.finish_regs_x0 : s.finish.regs.x0 = s.regs.x0 := rfl
@[simp] theorem State.finish_regs_y0 : s.finish.regs.y0 = s.regs.y0 := rfl
@[simp] theorem State.finish_regs_w : s.finish.regs.w = s.regs.w := rfl
@[simp] theorem State.finish_regs_ht : s.finish.regs.ht = s.regs.ht := rfl
@[simp] theorem State.finish_regs_pe : s.finish.regs.pe = s.regs.pe := rfl
@[simp] theorem State.finish_regs_po : s.finish.regs.po = s.regs.po := rfl
@[simp] theorem State.finish_regs_dpResult : s.finish.regs.dpResult = s.regs.dpResult := rfl
@[simp] theorem State.finish_regs_payLen : s.finish.regs.payLen = s.regs.payLen := rfl
@[simp] theorem State.finish_h_fsm : s.finish.h.fsm = .idle := rfl
@[simp] theorem State.finish_h_idx : s.finish.h.idx = s.h.idx := rfl
@[simp] theorem State.finish_h_buf : s.finish.h.buf = s.h.buf := rfl
@[simp] theorem State.finish_h_hold : s.finish.h.hold = s.h.hold := rfl
@[simp] theorem State.finish_h_col : s.finish.h.col = s.h.col := rfl
@[simp] theorem State.finish_h_row : s.finish.h.row = s.h.row := rfl
@[simp] theorem State.finish_h_dx : s.finish.h.dx = s.h.dx := rfl
@[simp] theorem State.finish_h_dy : s.finish.h.dy = s.h.dy := rfl
@[simp] theorem State.finish_h_xs : s.finish.h.xs = s.h.xs := rfl
@[simp] theorem State.finish_h_xe : s.finish.h.xe = s.h.xe := rfl
@[simp] theorem State.finish_h_ye : s.finish.h.ye = s.h.ye := rfl
@[simp] theorem State.finish_io : s.finish.io = s.io := rfl
@[simp] theorem State.finish_host : s.finish.host = s.host := rfl

/-! ### raiseError -/

@[simp] theorem State.raiseError_extentMode (c : ErrCode) : (s.raiseError c).extentMode = s.extentMode := rfl
@[simp] theorem State.raiseError_regs_ie (c : ErrCode) : (s.raiseError c).regs.ie = s.regs.ie := rfl
@[simp] theorem State.raiseError_regs_err (c : ErrCode) : (s.raiseError c).regs.err = c := rfl
@[simp] theorem State.raiseError_regs_eos (c : ErrCode) : (s.raiseError c).regs.eos = s.regs.eos := rfl
@[simp] theorem State.raiseError_regs_done (c : ErrCode) : (s.raiseError c).regs.done = s.regs.done := rfl
@[simp] theorem State.raiseError_regs_cmdDrop (c : ErrCode) : (s.raiseError c).regs.cmdDrop = s.regs.cmdDrop := rfl
@[simp] theorem State.raiseError_regs_hdrVersion (c : ErrCode) : (s.raiseError c).regs.hdrVersion = s.regs.hdrVersion := rfl
@[simp] theorem State.raiseError_regs_hdrIdent (c : ErrCode) : (s.raiseError c).regs.hdrIdent = s.regs.hdrIdent := rfl
@[simp] theorem State.raiseError_regs_hdrSleep (c : ErrCode) : (s.raiseError c).regs.hdrSleep = s.regs.hdrSleep := rfl
@[simp] theorem State.raiseError_regs_x0 (c : ErrCode) : (s.raiseError c).regs.x0 = s.regs.x0 := rfl
@[simp] theorem State.raiseError_regs_y0 (c : ErrCode) : (s.raiseError c).regs.y0 = s.regs.y0 := rfl
@[simp] theorem State.raiseError_regs_w (c : ErrCode) : (s.raiseError c).regs.w = s.regs.w := rfl
@[simp] theorem State.raiseError_regs_ht (c : ErrCode) : (s.raiseError c).regs.ht = s.regs.ht := rfl
@[simp] theorem State.raiseError_regs_pe (c : ErrCode) : (s.raiseError c).regs.pe = s.regs.pe := rfl
@[simp] theorem State.raiseError_regs_po (c : ErrCode) : (s.raiseError c).regs.po = s.regs.po := rfl
@[simp] theorem State.raiseError_regs_dpResult (c : ErrCode) : (s.raiseError c).regs.dpResult = s.regs.dpResult := rfl
@[simp] theorem State.raiseError_regs_payLen (c : ErrCode) : (s.raiseError c).regs.payLen = s.regs.payLen := rfl
@[simp] theorem State.raiseError_h_fsm (c : ErrCode) : (s.raiseError c).h.fsm = .error := rfl
@[simp] theorem State.raiseError_h_idx (c : ErrCode) : (s.raiseError c).h.idx = s.h.idx := rfl
@[simp] theorem State.raiseError_h_buf (c : ErrCode) : (s.raiseError c).h.buf = s.h.buf := rfl
@[simp] theorem State.raiseError_h_hold (c : ErrCode) : (s.raiseError c).h.hold = s.h.hold := rfl
@[simp] theorem State.raiseError_h_col (c : ErrCode) : (s.raiseError c).h.col = s.h.col := rfl
@[simp] theorem State.raiseError_h_row (c : ErrCode) : (s.raiseError c).h.row = s.h.row := rfl
@[simp] theorem State.raiseError_h_dx (c : ErrCode) : (s.raiseError c).h.dx = s.h.dx := rfl
@[simp] theorem State.raiseError_h_dy (c : ErrCode) : (s.raiseError c).h.dy = s.h.dy := rfl
@[simp] theorem State.raiseError_h_xs (c : ErrCode) : (s.raiseError c).h.xs = s.h.xs := rfl
@[simp] theorem State.raiseError_h_xe (c : ErrCode) : (s.raiseError c).h.xe = s.h.xe := rfl
@[simp] theorem State.raiseError_h_ye (c : ErrCode) : (s.raiseError c).h.ye = s.h.ye := rfl
@[simp] theorem State.raiseError_io (c : ErrCode) : (s.raiseError c).io = s.io := rfl
@[simp] theorem State.raiseError_host (c : ErrCode) : (s.raiseError c).host = s.host := rfl

/-! ### resetBlock -/

@[simp] theorem State.resetBlock_extentMode : s.resetBlock.extentMode = s.extentMode := rfl
@[simp] theorem State.resetBlock_regs : s.resetBlock.regs = State.reset.regs := rfl
@[simp] theorem State.resetBlock_h : s.resetBlock.h = State.reset.h := rfl
@[simp] theorem State.resetBlock_io : s.resetBlock.io = s.io := rfl
@[simp] theorem State.resetBlock_host : s.resetBlock.host = s.host := rfl

/-! ### setIe -/

@[simp] theorem State.setIe_extentMode (ie : Bool) : (s.setIe ie).extentMode = s.extentMode := rfl
@[simp] theorem State.setIe_regs_ie (ie : Bool) : (s.setIe ie).regs.ie = ie := rfl
@[simp] theorem State.setIe_regs_err (ie : Bool) : (s.setIe ie).regs.err = s.regs.err := rfl
@[simp] theorem State.setIe_regs_eos (ie : Bool) : (s.setIe ie).regs.eos = s.regs.eos := rfl
@[simp] theorem State.setIe_regs_done (ie : Bool) : (s.setIe ie).regs.done = s.regs.done := rfl
@[simp] theorem State.setIe_regs_cmdDrop (ie : Bool) : (s.setIe ie).regs.cmdDrop = s.regs.cmdDrop := rfl
@[simp] theorem State.setIe_regs_hdrVersion (ie : Bool) : (s.setIe ie).regs.hdrVersion = s.regs.hdrVersion := rfl
@[simp] theorem State.setIe_regs_hdrIdent (ie : Bool) : (s.setIe ie).regs.hdrIdent = s.regs.hdrIdent := rfl
@[simp] theorem State.setIe_regs_hdrSleep (ie : Bool) : (s.setIe ie).regs.hdrSleep = s.regs.hdrSleep := rfl
@[simp] theorem State.setIe_regs_x0 (ie : Bool) : (s.setIe ie).regs.x0 = s.regs.x0 := rfl
@[simp] theorem State.setIe_regs_y0 (ie : Bool) : (s.setIe ie).regs.y0 = s.regs.y0 := rfl
@[simp] theorem State.setIe_regs_w (ie : Bool) : (s.setIe ie).regs.w = s.regs.w := rfl
@[simp] theorem State.setIe_regs_ht (ie : Bool) : (s.setIe ie).regs.ht = s.regs.ht := rfl
@[simp] theorem State.setIe_regs_pe (ie : Bool) : (s.setIe ie).regs.pe = s.regs.pe := rfl
@[simp] theorem State.setIe_regs_po (ie : Bool) : (s.setIe ie).regs.po = s.regs.po := rfl
@[simp] theorem State.setIe_regs_dpResult (ie : Bool) : (s.setIe ie).regs.dpResult = s.regs.dpResult := rfl
@[simp] theorem State.setIe_regs_payLen (ie : Bool) : (s.setIe ie).regs.payLen = s.regs.payLen := rfl
@[simp] theorem State.setIe_h (ie : Bool) : (s.setIe ie).h = s.h := rfl
@[simp] theorem State.setIe_io (ie : Bool) : (s.setIe ie).io = s.io := rfl
@[simp] theorem State.setIe_host (ie : Bool) : (s.setIe ie).host = s.host := rfl

/-! ### clearEnded -/

@[simp] theorem State.clearEnded_extentMode : s.clearEnded.extentMode = s.extentMode := rfl
@[simp] theorem State.clearEnded_regs_ie : s.clearEnded.regs.ie = s.regs.ie := rfl
@[simp] theorem State.clearEnded_regs_err : s.clearEnded.regs.err = s.regs.err := rfl
@[simp] theorem State.clearEnded_regs_eos : s.clearEnded.regs.eos = false := rfl
@[simp] theorem State.clearEnded_regs_done : s.clearEnded.regs.done = false := rfl
@[simp] theorem State.clearEnded_regs_cmdDrop : s.clearEnded.regs.cmdDrop = s.regs.cmdDrop := rfl
@[simp] theorem State.clearEnded_regs_hdrVersion : s.clearEnded.regs.hdrVersion = s.regs.hdrVersion := rfl
@[simp] theorem State.clearEnded_regs_hdrIdent : s.clearEnded.regs.hdrIdent = s.regs.hdrIdent := rfl
@[simp] theorem State.clearEnded_regs_hdrSleep : s.clearEnded.regs.hdrSleep = s.regs.hdrSleep := rfl
@[simp] theorem State.clearEnded_regs_x0 : s.clearEnded.regs.x0 = s.regs.x0 := rfl
@[simp] theorem State.clearEnded_regs_y0 : s.clearEnded.regs.y0 = s.regs.y0 := rfl
@[simp] theorem State.clearEnded_regs_w : s.clearEnded.regs.w = s.regs.w := rfl
@[simp] theorem State.clearEnded_regs_ht : s.clearEnded.regs.ht = s.regs.ht := rfl
@[simp] theorem State.clearEnded_regs_pe : s.clearEnded.regs.pe = s.regs.pe := rfl
@[simp] theorem State.clearEnded_regs_po : s.clearEnded.regs.po = s.regs.po := rfl
@[simp] theorem State.clearEnded_regs_dpResult : s.clearEnded.regs.dpResult = s.regs.dpResult := rfl
@[simp] theorem State.clearEnded_regs_payLen : s.clearEnded.regs.payLen = s.regs.payLen := rfl
@[simp] theorem State.clearEnded_h : s.clearEnded.h = s.h := rfl
@[simp] theorem State.clearEnded_io : s.clearEnded.io = s.io := rfl
@[simp] theorem State.clearEnded_host : s.clearEnded.host = s.host := rfl

/-! ### dropCommand -/

@[simp] theorem State.dropCommand_extentMode : s.dropCommand.extentMode = s.extentMode := rfl
@[simp] theorem State.dropCommand_regs_ie : s.dropCommand.regs.ie = s.regs.ie := rfl
@[simp] theorem State.dropCommand_regs_err : s.dropCommand.regs.err = s.regs.err := rfl
@[simp] theorem State.dropCommand_regs_eos : s.dropCommand.regs.eos = s.regs.eos := rfl
@[simp] theorem State.dropCommand_regs_done : s.dropCommand.regs.done = s.regs.done := rfl
@[simp] theorem State.dropCommand_regs_cmdDrop : s.dropCommand.regs.cmdDrop = true := rfl
@[simp] theorem State.dropCommand_regs_hdrVersion : s.dropCommand.regs.hdrVersion = s.regs.hdrVersion := rfl
@[simp] theorem State.dropCommand_regs_hdrIdent : s.dropCommand.regs.hdrIdent = s.regs.hdrIdent := rfl
@[simp] theorem State.dropCommand_regs_hdrSleep : s.dropCommand.regs.hdrSleep = s.regs.hdrSleep := rfl
@[simp] theorem State.dropCommand_regs_x0 : s.dropCommand.regs.x0 = s.regs.x0 := rfl
@[simp] theorem State.dropCommand_regs_y0 : s.dropCommand.regs.y0 = s.regs.y0 := rfl
@[simp] theorem State.dropCommand_regs_w : s.dropCommand.regs.w = s.regs.w := rfl
@[simp] theorem State.dropCommand_regs_ht : s.dropCommand.regs.ht = s.regs.ht := rfl
@[simp] theorem State.dropCommand_regs_pe : s.dropCommand.regs.pe = s.regs.pe := rfl
@[simp] theorem State.dropCommand_regs_po : s.dropCommand.regs.po = s.regs.po := rfl
@[simp] theorem State.dropCommand_regs_dpResult : s.dropCommand.regs.dpResult = s.regs.dpResult := rfl
@[simp] theorem State.dropCommand_regs_payLen : s.dropCommand.regs.payLen = s.regs.payLen := rfl
@[simp] theorem State.dropCommand_h : s.dropCommand.h = s.h := rfl
@[simp] theorem State.dropCommand_io : s.dropCommand.io = s.io := rfl
@[simp] theorem State.dropCommand_host : s.dropCommand.host = s.host := rfl

/-! ### startPhase -/

@[simp] theorem State.startPhase_extentMode (p : Phase) : (s.startPhase p).extentMode = s.extentMode := rfl
@[simp] theorem State.startPhase_regs (p : Phase) : (s.startPhase p).regs = s.regs := rfl
@[simp] theorem State.startPhase_h_fsm (p : Phase) : (s.startPhase p).h.fsm = p := rfl
@[simp] theorem State.startPhase_h_idx (p : Phase) : (s.startPhase p).h.idx = 0 := rfl
@[simp] theorem State.startPhase_h_buf (p : Phase) : (s.startPhase p).h.buf = s.h.buf := rfl
@[simp] theorem State.startPhase_h_hold (p : Phase) : (s.startPhase p).h.hold = s.h.hold := rfl
@[simp] theorem State.startPhase_h_col (p : Phase) : (s.startPhase p).h.col = s.h.col := rfl
@[simp] theorem State.startPhase_h_row (p : Phase) : (s.startPhase p).h.row = s.h.row := rfl
@[simp] theorem State.startPhase_h_dx (p : Phase) : (s.startPhase p).h.dx = s.h.dx := rfl
@[simp] theorem State.startPhase_h_dy (p : Phase) : (s.startPhase p).h.dy = s.h.dy := rfl
@[simp] theorem State.startPhase_h_xs (p : Phase) : (s.startPhase p).h.xs = s.h.xs := rfl
@[simp] theorem State.startPhase_h_xe (p : Phase) : (s.startPhase p).h.xe = s.h.xe := rfl
@[simp] theorem State.startPhase_h_ye (p : Phase) : (s.startPhase p).h.ye = s.h.ye := rfl
@[simp] theorem State.startPhase_io (p : Phase) : (s.startPhase p).io = s.io := rfl
@[simp] theorem State.startPhase_host (p : Phase) : (s.startPhase p).host = s.host := rfl

/-! ### nextIdx -/

@[simp] theorem State.nextIdx_extentMode : s.nextIdx.extentMode = s.extentMode := rfl
@[simp] theorem State.nextIdx_regs : s.nextIdx.regs = s.regs := rfl
@[simp] theorem State.nextIdx_h_fsm : s.nextIdx.h.fsm = s.h.fsm := rfl
@[simp] theorem State.nextIdx_h_idx : s.nextIdx.h.idx = s.h.idx + 1 := rfl
@[simp] theorem State.nextIdx_h_buf : s.nextIdx.h.buf = s.h.buf := rfl
@[simp] theorem State.nextIdx_h_hold : s.nextIdx.h.hold = s.h.hold := rfl
@[simp] theorem State.nextIdx_h_col : s.nextIdx.h.col = s.h.col := rfl
@[simp] theorem State.nextIdx_h_row : s.nextIdx.h.row = s.h.row := rfl
@[simp] theorem State.nextIdx_h_dx : s.nextIdx.h.dx = s.h.dx := rfl
@[simp] theorem State.nextIdx_h_dy : s.nextIdx.h.dy = s.h.dy := rfl
@[simp] theorem State.nextIdx_h_xs : s.nextIdx.h.xs = s.h.xs := rfl
@[simp] theorem State.nextIdx_h_xe : s.nextIdx.h.xe = s.h.xe := rfl
@[simp] theorem State.nextIdx_h_ye : s.nextIdx.h.ye = s.h.ye := rfl
@[simp] theorem State.nextIdx_io : s.nextIdx.io = s.io := rfl
@[simp] theorem State.nextIdx_host : s.nextIdx.host = s.host := rfl

/-! ### binAppend -/

@[simp] theorem State.binAppend_extentMode (t : Token) : (s.binAppend t).extentMode = s.extentMode := rfl
@[simp] theorem State.binAppend_regs (t : Token) : (s.binAppend t).regs = s.regs := rfl
@[simp] theorem State.binAppend_h (t : Token) : (s.binAppend t).h = s.h := rfl
@[simp] theorem State.binAppend_io_bin (t : Token) : (s.binAppend t).io.bin = s.io.bin ++ [t] := rfl
@[simp] theorem State.binAppend_io_pin (t : Token) : (s.binAppend t).io.pin = s.io.pin := rfl
@[simp] theorem State.binAppend_io_bout (t : Token) : (s.binAppend t).io.bout = s.io.bout := rfl
@[simp] theorem State.binAppend_io_pout (t : Token) : (s.binAppend t).io.pout = s.io.pout := rfl
@[simp] theorem State.binAppend_host (t : Token) : (s.binAppend t).host = s.host := rfl

/-! ### pinAppend -/

@[simp] theorem State.pinAppend_extentMode (p : Byte) : (s.pinAppend p).extentMode = s.extentMode := rfl
@[simp] theorem State.pinAppend_regs (p : Byte) : (s.pinAppend p).regs = s.regs := rfl
@[simp] theorem State.pinAppend_h (p : Byte) : (s.pinAppend p).h = s.h := rfl
@[simp] theorem State.pinAppend_io_bin (p : Byte) : (s.pinAppend p).io.bin = s.io.bin := rfl
@[simp] theorem State.pinAppend_io_pin (p : Byte) : (s.pinAppend p).io.pin = s.io.pin ++ [p] := rfl
@[simp] theorem State.pinAppend_io_bout (p : Byte) : (s.pinAppend p).io.bout = s.io.bout := rfl
@[simp] theorem State.pinAppend_io_pout (p : Byte) : (s.pinAppend p).io.pout = s.io.pout := rfl
@[simp] theorem State.pinAppend_host (p : Byte) : (s.pinAppend p).host = s.host := rfl

/-! ### recordRead -/

@[simp] theorem State.recordRead_extentMode (d : Word) : (s.recordRead d).extentMode = s.extentMode := rfl
@[simp] theorem State.recordRead_regs (d : Word) : (s.recordRead d).regs = s.regs := rfl
@[simp] theorem State.recordRead_h (d : Word) : (s.recordRead d).h = s.h := rfl
@[simp] theorem State.recordRead_io (d : Word) : (s.recordRead d).io = s.io := rfl
@[simp] theorem State.recordRead_host_agenda (d : Word) : (s.recordRead d).host.agenda = s.host.agenda := rfl
@[simp] theorem State.recordRead_host_readData (d : Word) : (s.recordRead d).host.readData = s.host.readData ++ [d] := rfl
@[simp] theorem State.recordRead_host_boutTaken (d : Word) : (s.recordRead d).host.boutTaken = s.host.boutTaken := rfl
@[simp] theorem State.recordRead_host_poutTaken (d : Word) : (s.recordRead d).host.poutTaken = s.host.poutTaken := rfl

/-! ### withAgenda -/

@[simp] theorem State.withAgenda_extentMode (l : List Turn) : (s.withAgenda l).extentMode = s.extentMode := rfl
@[simp] theorem State.withAgenda_regs (l : List Turn) : (s.withAgenda l).regs = s.regs := rfl
@[simp] theorem State.withAgenda_h (l : List Turn) : (s.withAgenda l).h = s.h := rfl
@[simp] theorem State.withAgenda_io (l : List Turn) : (s.withAgenda l).io = s.io := rfl
@[simp] theorem State.withAgenda_host_agenda (l : List Turn) : (s.withAgenda l).host.agenda = l := rfl
@[simp] theorem State.withAgenda_host_readData (l : List Turn) : (s.withAgenda l).host.readData = s.host.readData := rfl
@[simp] theorem State.withAgenda_host_boutTaken (l : List Turn) : (s.withAgenda l).host.boutTaken = s.host.boutTaken := rfl
@[simp] theorem State.withAgenda_host_poutTaken (l : List Turn) : (s.withAgenda l).host.poutTaken = s.host.poutTaken := rfl

/-! ### loadHeader -/

@[simp] theorem State.loadHeader_extentMode : s.loadHeader.extentMode = s.extentMode := rfl
@[simp] theorem State.loadHeader_regs_ie : s.loadHeader.regs.ie = s.regs.ie := rfl
@[simp] theorem State.loadHeader_regs_err : s.loadHeader.regs.err = s.regs.err := rfl
@[simp] theorem State.loadHeader_regs_eos : s.loadHeader.regs.eos = s.regs.eos := rfl
@[simp] theorem State.loadHeader_regs_done : s.loadHeader.regs.done = s.regs.done := rfl
@[simp] theorem State.loadHeader_regs_cmdDrop : s.loadHeader.regs.cmdDrop = s.regs.cmdDrop := rfl
@[simp] theorem State.loadHeader_regs_hdrVersion : s.loadHeader.regs.hdrVersion = s.h.buf[0] := rfl
@[simp] theorem State.loadHeader_regs_hdrIdent : s.loadHeader.regs.hdrIdent = le32 s.h.buf[1] s.h.buf[2] s.h.buf[3] s.h.buf[4] := rfl
@[simp] theorem State.loadHeader_regs_hdrSleep : s.loadHeader.regs.hdrSleep = le32 s.h.buf[5] s.h.buf[6] s.h.buf[7] s.h.buf[8] := rfl
@[simp] theorem State.loadHeader_regs_x0 : s.loadHeader.regs.x0 = s.regs.x0 := rfl
@[simp] theorem State.loadHeader_regs_y0 : s.loadHeader.regs.y0 = s.regs.y0 := rfl
@[simp] theorem State.loadHeader_regs_w : s.loadHeader.regs.w = s.regs.w := rfl
@[simp] theorem State.loadHeader_regs_ht : s.loadHeader.regs.ht = s.regs.ht := rfl
@[simp] theorem State.loadHeader_regs_pe : s.loadHeader.regs.pe = s.regs.pe := rfl
@[simp] theorem State.loadHeader_regs_po : s.loadHeader.regs.po = s.regs.po := rfl
@[simp] theorem State.loadHeader_regs_dpResult : s.loadHeader.regs.dpResult = s.regs.dpResult := rfl
@[simp] theorem State.loadHeader_regs_payLen : s.loadHeader.regs.payLen = s.regs.payLen := rfl
@[simp] theorem State.loadHeader_h : s.loadHeader.h = s.h := rfl
@[simp] theorem State.loadHeader_io : s.loadHeader.io = s.io := rfl
@[simp] theorem State.loadHeader_host : s.loadHeader.host = s.host := rfl

/-! ### startRecord -/

@[simp] theorem State.startRecord_extentMode : s.startRecord.extentMode = s.extentMode := rfl
@[simp] theorem State.startRecord_regs_ie : s.startRecord.regs.ie = s.regs.ie := rfl
@[simp] theorem State.startRecord_regs_err : s.startRecord.regs.err = s.regs.err := rfl
@[simp] theorem State.startRecord_regs_eos : s.startRecord.regs.eos = s.regs.eos := rfl
@[simp] theorem State.startRecord_regs_done : s.startRecord.regs.done = s.regs.done := rfl
@[simp] theorem State.startRecord_regs_cmdDrop : s.startRecord.regs.cmdDrop = s.regs.cmdDrop := rfl
@[simp] theorem State.startRecord_regs_hdrVersion : s.startRecord.regs.hdrVersion = s.regs.hdrVersion := rfl
@[simp] theorem State.startRecord_regs_hdrIdent : s.startRecord.regs.hdrIdent = s.regs.hdrIdent := rfl
@[simp] theorem State.startRecord_regs_hdrSleep : s.startRecord.regs.hdrSleep = s.regs.hdrSleep := rfl
@[simp] theorem State.startRecord_regs_x0 : s.startRecord.regs.x0 = s.regs.x0 := rfl
@[simp] theorem State.startRecord_regs_y0 : s.startRecord.regs.y0 = s.regs.y0 := rfl
@[simp] theorem State.startRecord_regs_w : s.startRecord.regs.w = s.regs.w := rfl
@[simp] theorem State.startRecord_regs_ht : s.startRecord.regs.ht = s.regs.ht := rfl
@[simp] theorem State.startRecord_regs_pe : s.startRecord.regs.pe = s.regs.pe := rfl
@[simp] theorem State.startRecord_regs_po : s.startRecord.regs.po = s.regs.po := rfl
@[simp] theorem State.startRecord_regs_dpResult : s.startRecord.regs.dpResult = s.regs.dpResult := rfl
@[simp] theorem State.startRecord_regs_payLen : s.startRecord.regs.payLen = BitVec.ofNat 32 (s.regs.w.toNat / 2 * s.regs.ht.toNat) := rfl
@[simp] theorem State.startRecord_h_fsm : s.startRecord.h.fsm = .encGeom := rfl
@[simp] theorem State.startRecord_h_idx : s.startRecord.h.idx = 0 := rfl
@[simp] theorem State.startRecord_h_buf : s.startRecord.h.buf = s.h.buf := rfl
@[simp] theorem State.startRecord_h_hold : s.startRecord.h.hold = 0 := rfl
@[simp] theorem State.startRecord_h_col : s.startRecord.h.col = 0 := rfl
@[simp] theorem State.startRecord_h_row : s.startRecord.h.row = 0 := rfl
@[simp] theorem State.startRecord_h_dx : s.startRecord.h.dx = s.h.dx := rfl
@[simp] theorem State.startRecord_h_dy : s.startRecord.h.dy = s.h.dy := rfl
@[simp] theorem State.startRecord_h_xs : s.startRecord.h.xs = s.h.xs := rfl
@[simp] theorem State.startRecord_h_xe : s.startRecord.h.xe = s.h.xe := rfl
@[simp] theorem State.startRecord_h_ye : s.startRecord.h.ye = s.h.ye := rfl
@[simp] theorem State.startRecord_io : s.startRecord.io = s.io := rfl
@[simp] theorem State.startRecord_host : s.startRecord.host = s.host := rfl

/-! ### loadGeometry -/

@[simp] theorem State.loadGeometry_extentMode : s.loadGeometry.extentMode = s.extentMode := rfl
@[simp] theorem State.loadGeometry_regs_ie : s.loadGeometry.regs.ie = s.regs.ie := rfl
@[simp] theorem State.loadGeometry_regs_err : s.loadGeometry.regs.err = s.regs.err := rfl
@[simp] theorem State.loadGeometry_regs_eos : s.loadGeometry.regs.eos = s.regs.eos := rfl
@[simp] theorem State.loadGeometry_regs_done : s.loadGeometry.regs.done = s.regs.done := rfl
@[simp] theorem State.loadGeometry_regs_cmdDrop : s.loadGeometry.regs.cmdDrop = s.regs.cmdDrop := rfl
@[simp] theorem State.loadGeometry_regs_hdrVersion : s.loadGeometry.regs.hdrVersion = s.regs.hdrVersion := rfl
@[simp] theorem State.loadGeometry_regs_hdrIdent : s.loadGeometry.regs.hdrIdent = s.regs.hdrIdent := rfl
@[simp] theorem State.loadGeometry_regs_hdrSleep : s.loadGeometry.regs.hdrSleep = s.regs.hdrSleep := rfl
@[simp] theorem State.loadGeometry_regs_x0 : s.loadGeometry.regs.x0 = le16 s.h.buf[0] s.h.buf[1] := rfl
@[simp] theorem State.loadGeometry_regs_y0 : s.loadGeometry.regs.y0 = le16 s.h.buf[2] s.h.buf[3] := rfl
@[simp] theorem State.loadGeometry_regs_w : s.loadGeometry.regs.w = le16 s.h.buf[4] s.h.buf[5] := rfl
@[simp] theorem State.loadGeometry_regs_ht : s.loadGeometry.regs.ht = le16 s.h.buf[6] s.h.buf[7] := rfl
@[simp] theorem State.loadGeometry_regs_pe : s.loadGeometry.regs.pe = s.regs.pe := rfl
@[simp] theorem State.loadGeometry_regs_po : s.loadGeometry.regs.po = s.regs.po := rfl
@[simp] theorem State.loadGeometry_regs_dpResult : s.loadGeometry.regs.dpResult = s.regs.dpResult := rfl
@[simp] theorem State.loadGeometry_regs_payLen : s.loadGeometry.regs.payLen = s.regs.payLen := rfl
@[simp] theorem State.loadGeometry_h : s.loadGeometry.h = s.h := rfl
@[simp] theorem State.loadGeometry_io : s.loadGeometry.io = s.io := rfl
@[simp] theorem State.loadGeometry_host : s.loadGeometry.host = s.host := rfl

/-! ### startScan -/

@[simp] theorem State.startScan_extentMode : s.startScan.extentMode = s.extentMode := rfl
@[simp] theorem State.startScan_regs_ie : s.startScan.regs.ie = s.regs.ie := rfl
@[simp] theorem State.startScan_regs_err : s.startScan.regs.err = s.regs.err := rfl
@[simp] theorem State.startScan_regs_eos : s.startScan.regs.eos = s.regs.eos := rfl
@[simp] theorem State.startScan_regs_done : s.startScan.regs.done = s.regs.done := rfl
@[simp] theorem State.startScan_regs_cmdDrop : s.startScan.regs.cmdDrop = s.regs.cmdDrop := rfl
@[simp] theorem State.startScan_regs_hdrVersion : s.startScan.regs.hdrVersion = s.regs.hdrVersion := rfl
@[simp] theorem State.startScan_regs_hdrIdent : s.startScan.regs.hdrIdent = s.regs.hdrIdent := rfl
@[simp] theorem State.startScan_regs_hdrSleep : s.startScan.regs.hdrSleep = s.regs.hdrSleep := rfl
@[simp] theorem State.startScan_regs_x0 : s.startScan.regs.x0 = s.regs.x0 := rfl
@[simp] theorem State.startScan_regs_y0 : s.startScan.regs.y0 = s.regs.y0 := rfl
@[simp] theorem State.startScan_regs_w : s.startScan.regs.w = s.regs.w := rfl
@[simp] theorem State.startScan_regs_ht : s.startScan.regs.ht = s.regs.ht := rfl
@[simp] theorem State.startScan_regs_pe : s.startScan.regs.pe = s.regs.pe := rfl
@[simp] theorem State.startScan_regs_po : s.startScan.regs.po = s.regs.po := rfl
@[simp] theorem State.startScan_regs_dpResult : s.startScan.regs.dpResult = s.regs.dpResult := rfl
@[simp] theorem State.startScan_regs_payLen : s.startScan.regs.payLen = payLenOf s.window := rfl
@[simp] theorem State.startScan_h_fsm : s.startScan.h.fsm = s.h.fsm := rfl
@[simp] theorem State.startScan_h_idx : s.startScan.h.idx = s.h.idx := rfl
@[simp] theorem State.startScan_h_buf : s.startScan.h.buf = s.h.buf := rfl
@[simp] theorem State.startScan_h_hold : s.startScan.h.hold = s.h.hold := rfl
@[simp] theorem State.startScan_h_col : s.startScan.h.col = s.h.col := rfl
@[simp] theorem State.startScan_h_row : s.startScan.h.row = s.h.row := rfl
@[simp] theorem State.startScan_h_dx : s.startScan.h.dx = s.window.xs := rfl
@[simp] theorem State.startScan_h_dy : s.startScan.h.dy = s.window.ys := rfl
@[simp] theorem State.startScan_h_xs : s.startScan.h.xs = s.window.xs := rfl
@[simp] theorem State.startScan_h_xe : s.startScan.h.xe = s.window.xe := rfl
@[simp] theorem State.startScan_h_ye : s.startScan.h.ye = s.window.ye := rfl
@[simp] theorem State.startScan_io : s.startScan.io = s.io := rfl
@[simp] theorem State.startScan_host : s.startScan.host = s.host := rfl

end Sys2Proof.Machine
end

