-- ==== Sys2Proof/Laws/Ops.lean ====
section
/-! SUPPORT. For each shared operation one lemma that says once everything it can do; later proofs cite these and do
not unfold the operation. -/

namespace Sys2Proof.Machine

/-! ### Streams -/

/-- `BinPop()` answers exactly the head token and the state without it (R12, R64). -/
theorem binPop_eq_some {s u : State} {t : Token} :
    s.binPop = some (t, u) ↔ ∃ rest, s.io.bin = t :: rest ∧ u = { s with io.bin := rest } := by
  unfold State.binPop
  cases h : s.io.bin with
  | nil => simp
  | cons t' rest =>
    constructor
    · intro e; cases e; exact ⟨rest, rfl, rfl⟩
    · rintro ⟨r, e, rfl⟩; cases e; rfl

/-- `BinPop()` has nothing to take exactly when BIN is empty (R64). -/
theorem binPop_eq_none {s : State} : s.binPop = none ↔ s.io.bin = [] := by
  unfold State.binPop
  cases h : s.io.bin <;> simp

/-- `PinPop()` answers exactly the head sample and the state without it (R12, R65). -/
theorem pinPop_eq_some {s u : State} {p : Byte} :
    s.pinPop = some (p, u) ↔ ∃ rest, s.io.pin = p :: rest ∧ u = { s with io.pin := rest } := by
  unfold State.pinPop
  cases h : s.io.pin with
  | nil => simp
  | cons p' rest =>
    constructor
    · intro e; cases e; exact ⟨rest, rfl, rfl⟩
    · rintro ⟨r, e, rfl⟩; cases e; rfl

/-- `PinPop()` has nothing to take exactly when PIN is empty (R65). -/
theorem pinPop_eq_none {s : State} : s.pinPop = none ↔ s.io.pin = [] := by
  unfold State.pinPop
  cases h : s.io.pin <;> simp

/-! ### The header and geometry index -/

/-- A byte is stored exactly when the record has a byte h.idx, and the index goes on by one (R124, R148). -/
theorem storeByte_eq_some {s t : State} {len : Nat} {b : Byte} :
    s.storeByte len b = some t ↔ s.h.idx.toNat < len
      ∧ t = { s with h.buf := s.h.buf.setIfInBounds s.h.idx.toNat b, h.idx := s.h.idx + 1 } := by
  unfold State.storeByte putByte
  by_cases h : s.h.idx.toNat < len <;> simp [h, eq_comm]

/-- No byte is stored exactly when the record has no byte h.idx. -/
theorem storeByte_eq_none {s : State} {len : Nat} {b : Byte} :
    s.storeByte len b = none ↔ len ≤ s.h.idx.toNat := by
  unfold State.storeByte putByte
  by_cases h : s.h.idx.toNat < len
  · simp [h]
  · simp [h]; omega

/-! ### Issuing a command -/

/-- In IDLE a command is accepted: IE first, then DONE and EOS cleared, then its own part (R200 to R202). -/
theorem issue_idle {s : State} (h : s.h.fsm = .idle) (ie : Bool) (body : State → State) :
    s.issue ie body = body (s.setIe ie).clearEnded := by
  simp [State.issue, h]

/-- Outside IDLE a command is dropped: IE is written, CMD_DROP is set, and nothing else happens (R201, R205). -/
theorem issue_dropped {s : State} (h : s.h.fsm ≠ .idle) (ie : Bool) (body : State → State) :
    s.issue ie body = (s.setIe ie).dropCommand := by
  simp [State.issue, h]

/-! ### Register port -/

/-- While BUSY a data register keeps its value (R62, R261). -/
theorem storeData_busy {s : State} (h : s.busy = true) (n : Reg) (d : Word) : s.storeData n d = s := by
  simp [State.storeData, h]

/-- While not BUSY a data register takes the word (R62). -/
theorem storeData_ready {s : State} (h : s.busy = false) (n : Reg) (d : Word) :
    s.storeData n d = { s with regs := s.regs.store n d } := by
  simp [State.storeData, h]

/-- A register write that is no command changes registers only: it may clear CMD_DROP, or, while not BUSY, store a data
register, or do nothing (R62). -/
theorem writeOther_cases (s : State) (n : Reg) (d : Word) :
    s.writeOther n d = s
      ∨ n = .status ∧ d.getLsbD 9 = true ∧ s.writeOther n d = { s with regs.cmdDrop := false }
      ∨ s.busy = false ∧ s.writeOther n d = { s with regs := s.regs.store n d } := by
  have data : ∀ n, s.storeData n d = s ∨ s.busy = false ∧ s.storeData n d = { s with regs := s.regs.store n d } := by
    intro n
    cases hb : s.busy
    · exact .inr ⟨rfl, storeData_ready hb n d⟩
    · exact .inl (storeData_busy hb n d)
  cases n with
  | status =>
    by_cases h9 : d.getLsbD 9 = true
    · exact .inr (.inl ⟨rfl, h9, if_pos h9⟩)
    · exact .inl (if_neg h9)
  | ctrl => exact .inl rfl
  | dpResult => exact .inl rfl
  | payLen => exact .inl rfl
  | reserved => exact .inl rfl
  | hdrVersion => exact (data .hdrVersion).imp id .inr
  | hdrIdent => exact (data .hdrIdent).imp id .inr
  | hdrSleep => exact (data .hdrSleep).imp id .inr
  | geomXY => exact (data .geomXY).imp id .inr
  | geomWH => exact (data .geomWH).imp id .inr
  | dpOperand => exact (data .dpOperand).imp id .inr

/-- BUSY says that a command is in progress (R25, R206). -/
theorem busy_iff {s : State} : s.busy = true ↔ s.h.fsm ≠ .idle ∧ s.h.fsm ≠ .error := by
  simp [State.busy]

/-- The address selects CTRL exactly when `addr & 0x3C` is 0 (R61). -/
theorem regSelect_eq_zero (a : Addr) : regSelect a = 0#4 ↔ a &&& 0x3C#6 = 0#6 := by
  revert a; decide

/-- A write that selects CTRL is the command word it holds (R22, R61). -/
theorem decodeWrite_ok {a : Addr} {d : Word} {i : Instr} :
    decodeWrite a d = .ok i ↔ regSelect a = 0#4 ∧ decode d = i := by
  unfold decodeWrite
  by_cases h : regSelect a = 0#4 <;> simp [h]

end Sys2Proof.Machine
end

