-- ==== Sys2Proof/Laws/Steps.lean ====
section
/-! SUPPORT. What a BLOCK step can do and what a turn can do, said once: every invariant is derived from these. -/

namespace Sys2Proof.Machine

/-- Every BLOCK step is the step of its phase, on the token or sample at the head of its input stream (R207). -/
theorem blockStep_cases {s : State} {o : Host.Outcome State Fault Refusal} (h : blockStep s = some o) :
    (s.h.fsm = .encHdr ∧ o = stepEncHdr s)
    ∨ (s.h.fsm = .encGeom ∧ o = stepEncGeom s)
    ∨ (s.h.fsm = .encPix ∧ ∃ p rest, s.io.pin = p :: rest ∧ o = stepEncPix p { s with io.pin := rest })
    ∨ (s.h.fsm = .decHdr ∧ ∃ rest,
        (∃ b, s.io.bin = .byte b :: rest ∧ o = stepDecHdrByte b { s with io.bin := rest })
        ∨ (s.io.bin = .endOfStream :: rest ∧ o = stepDecHdrEnd { s with io.bin := rest }))
    ∨ (s.h.fsm = .decGeom ∧ ∃ rest,
        (∃ b, s.io.bin = .byte b :: rest ∧ o = stepDecGeomByte b { s with io.bin := rest })
        ∨ (s.io.bin = .endOfStream :: rest ∧ o = stepDecGeomEnd { s with io.bin := rest }))
    ∨ (s.h.fsm = .decPix ∧ ∃ rest,
        (∃ b, s.io.bin = .byte b :: rest ∧ o = stepDecPixByte b { s with io.bin := rest })
        ∨ (s.io.bin = .endOfStream :: rest ∧ o = stepDecPixEnd { s with io.bin := rest })) := by
  have tok : ∀ {f g}, onToken s f g = some o → ∃ rest,
      (∃ b, s.io.bin = .byte b :: rest ∧ o = f b { s with io.bin := rest })
      ∨ (s.io.bin = .endOfStream :: rest ∧ o = g { s with io.bin := rest }) := by
    intro f g e
    unfold onToken at e
    split at e
    · cases e
    · next b t hp =>
      obtain ⟨rest, hb, rfl⟩ := binPop_eq_some.1 hp
      exact ⟨rest, .inl ⟨b, hb, (Option.some.inj e).symm⟩⟩
    · next t hp =>
      obtain ⟨rest, hb, rfl⟩ := binPop_eq_some.1 hp
      exact ⟨rest, .inr ⟨hb, (Option.some.inj e).symm⟩⟩
  unfold blockStep at h
  split at h <;> rename_i hf
  · cases h
  · exact .inl ⟨hf, (Option.some.inj h).symm⟩
  · exact .inr (.inl ⟨hf, (Option.some.inj h).symm⟩)
  · unfold onSample at h
    split at h
    · cases h
    · next p t hp =>
      obtain ⟨rest, hb, rfl⟩ := pinPop_eq_some.1 hp
      exact .inr (.inr (.inl ⟨hf, p, rest, hb, (Option.some.inj h).symm⟩))
  · exact .inr (.inr (.inr (.inl ⟨hf, tok h⟩)))
  · exact .inr (.inr (.inr (.inr (.inl ⟨hf, tok h⟩))))
  · exact .inr (.inr (.inr (.inr (.inr ⟨hf, tok h⟩))))
  · cases h

/-- Every step is one HOST action, or the BLOCK's turn, or a WAIT that has ended (R73, R103). -/
theorem step_cases {s : State} {o : Host.Outcome State Fault Refusal} (h : step s = o) :
    (∃ a rest, s.host.agenda = .host a :: rest ∧ o = hostAct a (s.withAgenda rest))
    ∨ (s.host.agenda = [] ∧ o = blockTurn s)
    ∨ (∃ rest, s.host.agenda = .block :: rest ∧ o = blockTurn (s.withAgenda rest))
    ∨ (∃ rest, s.host.agenda = .wait :: rest ∧ s.busy = true ∧ o = blockTurn s)
    ∨ (∃ rest, s.host.agenda = .wait :: rest ∧ s.busy = false ∧ o = .next (s.withAgenda rest)) := by
  unfold step takeTurn at h
  split at h <;> rename_i ha
  · exact .inr (.inl ⟨ha, h.symm⟩)
  · exact .inl ⟨_, _, ha, h.symm⟩
  · exact .inr (.inr (.inl ⟨_, ha, h.symm⟩))
  · split at h <;> rename_i hb
    · exact .inr (.inr (.inr (.inl ⟨_, ha, hb, h.symm⟩)))
    · exact .inr (.inr (.inr (.inr ⟨_, ha, by simpa using hb, h.symm⟩)))

/-- The HOST program is done exactly when every turn left is the BLOCK's (R208). -/
theorem programDone_iff {s : State} : s.programDone = true ↔ ∀ t ∈ s.host.agenda, t = .block := by
  unfold State.programDone
  rw [List.all_eq_true]
  refine forall₂_congr fun t _ => ?_
  cases t <;> simp [isStatement]

/-- The agenda of a HOST program that is done is empty or begins with a turn of the BLOCK (R208). -/
theorem agenda_of_programDone {s : State} (h : s.programDone = true) :
    s.host.agenda = [] ∨ ∃ rest, s.host.agenda = .block :: rest := by
  rw [programDone_iff] at h
  cases e : s.host.agenda with
  | nil => exact .inl rfl
  | cons t rest => exact .inr ⟨rest, by rw [h t (by simp [e])]⟩

/-- The BLOCK's turn is its enabled step, and no change where it has none (R206, R207). -/
theorem blockTurn_cases (s : State) :
    (blockStep s = none ∧ blockTurn s = .next s) ∨ ∃ o, blockStep s = some o ∧ blockTurn s = o := by
  unfold blockTurn
  cases h : blockStep s with
  | none => exact .inl ⟨rfl, rfl⟩
  | some o => exact .inr ⟨o, rfl, rfl⟩

/-- A register write runs the command word it is, or is a data or STATUS write (R62, R200). -/
theorem regWrite_cases (a : Addr) (d : Word) (s : State) :
    (regSelect a = 0#4 ∧ regWrite a d s = exec (decode d) s)
      ∨ (regSelect a ≠ 0#4 ∧ regWrite a d s = .next (s.writeOther (regAt a) d)) := by
  unfold regWrite decodeWrite
  by_cases h : regSelect a = 0#4
  · exact .inl ⟨h, by simp [h]⟩
  · exact .inr ⟨h, by simp [h]⟩

/-- Every instruction answers a next state: NOP writes IE, SRST resets, and every other command is issued (R200). -/
theorem exec_cases (i : Instr) (s : State) :
    (∃ ie, i = .nop ie ∧ exec i s = .next (s.setIe ie))
      ∨ (i = .srst ∧ exec i s = .next s.resetBlock)
      ∨ ∃ ie body, exec i s = .next (s.issue ie body)
          ∧ body ∈ [packBody, unpackBody, encHeaderBody, encRecordBody, decHeaderBody, decRecordBody, illegalBody] := by
  cases i with
  | nop ie => exact .inl ⟨ie, rfl, rfl⟩
  | srst => exact .inr (.inl ⟨rfl, rfl⟩)
  | pack ie => exact .inr (.inr ⟨ie, packBody, rfl, by simp⟩)
  | unpack ie => exact .inr (.inr ⟨ie, unpackBody, rfl, by simp⟩)
  | encHeader ie => exact .inr (.inr ⟨ie, encHeaderBody, rfl, by simp⟩)
  | encRecord ie => exact .inr (.inr ⟨ie, encRecordBody, rfl, by simp⟩)
  | decHeader ie => exact .inr (.inr ⟨ie, decHeaderBody, rfl, by simp⟩)
  | decRecord ie => exact .inr (.inr ⟨ie, decRecordBody, rfl, by simp⟩)
  | reserved7 ie => exact .inr (.inr ⟨ie, illegalBody, rfl, by simp⟩)
  | reserved8 ie => exact .inr (.inr ⟨ie, illegalBody, rfl, by simp⟩)
  | reserved9 ie => exact .inr (.inr ⟨ie, illegalBody, rfl, by simp⟩)
  | reservedA ie => exact .inr (.inr ⟨ie, illegalBody, rfl, by simp⟩)
  | reservedB ie => exact .inr (.inr ⟨ie, illegalBody, rfl, by simp⟩)
  | reservedC ie => exact .inr (.inr ⟨ie, illegalBody, rfl, by simp⟩)
  | reservedD ie => exact .inr (.inr ⟨ie, illegalBody, rfl, by simp⟩)
  | reservedE ie => exact .inr (.inr ⟨ie, illegalBody, rfl, by simp⟩)
  | reservedF ie => exact .inr (.inr ⟨ie, illegalBody, rfl, by simp⟩)

end Sys2Proof.Machine
end

