-- ==== Sys2Proof/Laws/Invariant.lean ====
section
/-! SUPPORT. The invariant phase by phase: what it says of the flags in each phase, and what is enough to establish it
there. These are the introduction and elimination lemmas of `State.Inv`; that a step keeps it is not proved here. -/

namespace Sys2Proof.Machine

/-- In a phase other than IDLE and ERROR no flag and no error is set (R26, R28). -/
theorem Inv.flags_of_busy {s : State} (h : s.Inv) (hb : s.busy = true) :
    s.regs.err = .none ∧ s.regs.done = false ∧ s.regs.eos = false := by
  obtain ⟨hi, he⟩ := busy_iff.1 hb
  obtain ⟨⟨h1, h2, h3⟩, -⟩ := h
  have hd : s.regs.done = false := by
    cases e : s.regs.done with
    | false => rfl
    | true => exact absurd (h3 e) hi
  refine ⟨?_, hd, ?_⟩
  · by_contra hne
    exact he (h1.1 hne)
  · cases e : s.regs.eos with
    | false => rfl
    | true => rw [h2 e] at hd; cases hd

/-- What is enough in IDLE. -/
theorem Inv.of_idle {t : State} (hf : t.h.fsm = .idle) (he : t.regs.err = .none)
    (hd : t.regs.eos = true → t.regs.done = true) (hi : t.h.idx.toNat ≤ 9) (hr : ResultInv t) (hk : TakenInv t) :
    t.Inv :=
  ⟨⟨⟨fun h => absurd he h, fun h => (by rw [hf] at h; cases h)⟩, hd, fun _ => hf⟩,
    ⟨hi, by rw [hf]; nofun, by rw [hf]; nofun⟩,
    ⟨by rw [hf]; nofun, by rw [hf]; nofun, by rw [hf]; nofun⟩, fun h => (by rw [hf] at h; cases h), hr, hk⟩

/-- What is enough in ERROR. -/
theorem Inv.of_error {t : State} (hf : t.h.fsm = .error) (he : t.regs.err ≠ .none) (hd : t.regs.done = false)
    (hs : t.regs.eos = false) (hi : t.h.idx.toNat ≤ 9) (hr : ResultInv t) (hk : TakenInv t) : t.Inv :=
  ⟨⟨⟨fun _ => hf, fun _ => he⟩, fun h => (by rw [hs] at h; cases h), fun h => (by rw [hd] at h; cases h)⟩,
    ⟨hi, by rw [hf]; nofun, by rw [hf]; nofun⟩,
    ⟨by rw [hf]; nofun, by rw [hf]; nofun, by rw [hf]; nofun⟩, fun h => (by rw [hf] at h; cases h), hr, hk⟩

/-- The flags of a command in progress. -/
abbrev Quiet (t : State) : Prop := t.regs.err = .none ∧ t.regs.done = false ∧ t.regs.eos = false

/-- In a phase other than IDLE and ERROR, unset flags are enough for `FlagsInv`. -/
theorem FlagsInv.of_quiet {t : State} (hq : Quiet t) (hf : t.h.fsm ≠ .error) : FlagsInv t :=
  ⟨⟨fun h => absurd hq.1 h, fun h => absurd h hf⟩, fun h => (by rw [hq.2.2] at h; cases h),
    fun h => (by rw [hq.2.1] at h; cases h)⟩

/-- What is enough in a header phase. -/
theorem Inv.of_header {t : State} (hf : t.h.fsm = .encHdr ∨ t.h.fsm = .decHdr) (hq : Quiet t)
    (hi : t.h.idx.toNat < 9) (hr : ResultInv t) (hk : TakenInv t) : t.Inv := by
  refine ⟨FlagsInv.of_quiet hq ?_, ⟨by omega, fun _ => hi, ?_⟩, ⟨?_, ?_, ?_⟩, ?_, hr, hk⟩ <;>
    (try unfold DecodeInv) <;> rcases hf with hf | hf <;> rw [hf] <;> nofun

/-- What is enough in DEC_GEOM. -/
theorem Inv.of_decGeom {t : State} (hf : t.h.fsm = .decGeom) (hq : Quiet t)
    (hi : t.h.idx.toNat < 8) (hr : ResultInv t) (hk : TakenInv t) : t.Inv := by
  refine ⟨FlagsInv.of_quiet hq ?_, ⟨by omega, ?_, fun _ => hi⟩, ⟨?_, ?_, ?_⟩, ?_, hr, hk⟩ <;> (try unfold DecodeInv) <;> rw [hf] <;>
    nofun

/-- The geometry of an accepted ENC_RECORD (R142). -/
abbrev LegalImage (t : State) : Prop :=
  t.regs.w.toNat ≤ 960 ∧ t.regs.ht.toNat ≤ 540 ∧ t.regs.w.toNat % 2 = 0
    ∧ t.regs.payLen.toNat = t.regs.w.toNat / 2 * t.regs.ht.toNat

/-- What is enough in ENC_GEOM. -/
theorem Inv.of_encGeom {t : State} (hf : t.h.fsm = .encGeom) (hq : Quiet t) (hi : t.h.idx.toNat < 8)
    (hg : LegalImage t) (hc : t.h.col = 0 ∧ t.h.row = 0) (hr : ResultInv t) (hk : TakenInv t) : t.Inv := by
  refine ⟨FlagsInv.of_quiet hq ?_, ⟨by omega, ?_, fun _ => hi⟩, ⟨fun _ => hg, fun _ => hc, ?_⟩, ?_, hr, hk⟩ <;>
    (try unfold DecodeInv) <;> rw [hf] <;> nofun

/-- What is enough in ENC_PIX. -/
theorem Inv.of_encPix {t : State} (hf : t.h.fsm = .encPix) (hq : Quiet t) (hi : t.h.idx.toNat ≤ 9)
    (hg : LegalImage t) (hc : t.h.col.toNat < t.regs.w.toNat ∧ t.h.row.toNat < t.regs.ht.toNat)
    (hr : ResultInv t) (hk : TakenInv t) : t.Inv := by
  refine ⟨FlagsInv.of_quiet hq ?_, ⟨hi, ?_, ?_⟩, ⟨fun _ => hg, ?_, fun _ => hc⟩, ?_, hr, hk⟩ <;>
    (try unfold DecodeInv) <;> rw [hf] <;> nofun

/-- What is enough in DEC_PIX. -/
theorem Inv.of_decPix {t : State} (hf : t.h.fsm = .decPix) (hq : Quiet t) (hi : t.h.idx.toNat ≤ 9)
    (hd : DecodeInv t) (hr : ResultInv t) (hk : TakenInv t) : t.Inv := by
  refine ⟨FlagsInv.of_quiet hq ?_, ⟨hi, ?_, ?_⟩, ⟨?_, ?_, ?_⟩, hd, hr, hk⟩ <;> rw [hf] <;> nofun

end Sys2Proof.Machine
end

