-- ==== Sys2Proof/Laws/PerInstr.lean ====
section
/-! SUPPORT. The family EncodeFitsRow: the word written for an instruction fits the mask and match of its row of
spec/opcode_table.json. One lemma per constructor. -/

namespace Sys2Proof.Laws.EncodeFitsRow

/-- The word of a well-formed instruction has, under its row's mask, its row's match. -/
def Statement (i : Instr) : Prop := i.wf = true → encode i &&& tableMask i = tableMatch i

theorem nop (ie : Bool) : Statement (.nop ie) := fun _ => by cases ie <;> decide

theorem pack (ie : Bool) : Statement (.pack ie) := fun _ => by cases ie <;> decide

theorem unpack (ie : Bool) : Statement (.unpack ie) := fun _ => by cases ie <;> decide

theorem encHeader (ie : Bool) : Statement (.encHeader ie) := fun _ => by cases ie <;> decide

theorem encRecord (ie : Bool) : Statement (.encRecord ie) := fun _ => by cases ie <;> decide

theorem decHeader (ie : Bool) : Statement (.decHeader ie) := fun _ => by cases ie <;> decide

theorem decRecord (ie : Bool) : Statement (.decRecord ie) := fun _ => by cases ie <;> decide

theorem reserved7 (ie : Bool) : Statement (.reserved7 ie) := fun _ => by cases ie <;> decide

theorem reserved8 (ie : Bool) : Statement (.reserved8 ie) := fun _ => by cases ie <;> decide

theorem reserved9 (ie : Bool) : Statement (.reserved9 ie) := fun _ => by cases ie <;> decide

theorem reservedA (ie : Bool) : Statement (.reservedA ie) := fun _ => by cases ie <;> decide

theorem reservedB (ie : Bool) : Statement (.reservedB ie) := fun _ => by cases ie <;> decide

theorem reservedC (ie : Bool) : Statement (.reservedC ie) := fun _ => by cases ie <;> decide

theorem reservedD (ie : Bool) : Statement (.reservedD ie) := fun _ => by cases ie <;> decide

theorem reservedE (ie : Bool) : Statement (.reservedE ie) := fun _ => by cases ie <;> decide

theorem reservedF (ie : Bool) : Statement (.reservedF ie) := fun _ => by cases ie <;> decide

theorem srst : Statement .srst := fun _ => by decide

end Sys2Proof.Laws.EncodeFitsRow
end

