-- ==== Sys2Proof/Tests/Slice0.lean ====
section
/-! SUPPORT. Tests: command words written out from spec/30_encoding.md R90, R91 and R93, single steps with the results of
spec/95_test_vectors.md, and for each statement of the obligations a state and operands that meet its hypotheses. -/

namespace Sys2Proof.Tests

open Sys2Proof Sys2Proof.Machine

/-! ### Helpers -/

/-- The next state, or the reset state where there is none; each test asks for something the reset state has not. -/
def nextOf (o : Host.Outcome State Fault Refusal) : State :=
  match o with
  | .next s => s
  | .fault _ => State.reset
  | .refused _ => State.reset

/-- The state after the BLOCK's enabled step. -/
def blockNextOf (s : State) : State :=
  match blockStep s with
  | none => State.reset
  | some o => nextOf o

/-- The reset state in phase `p` at index `i`. -/
def inPhase (p : Phase) (i : BitVec 4) : State := { State.reset with h.fsm := p, h.idx := i }

/-- `s` with the HOST about to take the action `a`. -/
def acting (s : State) (a : HostAction) : State := { s with host.agenda := [.host a] }

/-- `s` with BIN holding `ts`. -/
def withBin (s : State) (ts : List Token) : State := { s with io.bin := ts }

/-- The reset state with a `w` by `ht` image to encode. -/
def image (w ht : Half) : State := { State.reset with regs.w := w, regs.ht := ht }

/-- The reset state with DP_OPERAND = `{po, pe}`. -/
def operands (pe po : Byte) : State := { State.reset with regs.pe := pe, regs.po := po }

/-- Phase ENC_PIX of a `w` by 1 image at column `col`, one sample on PIN. -/
def encoding (w col : Half) : State :=
  { image w 1 with
    h.fsm := .encPix, h.col := col, regs.payLen := BitVec.ofNat 32 (w.toNat / 2), io.pin := [0x34#8] }

/-- Phase DEC_PIX of the record (0, 0, 4, 1) at `x`, one payload byte on BIN. -/
def decoding (x : Coord) : State :=
  { image 4 1 with
    h.fsm := .decPix, h.dx := x, h.xe := 4, h.ye := 1, regs.payLen := 2, io.bin := [.byte 0xCA#8] }

/-- The error state after a rejected ENC_RECORD. -/
def failed : State := { State.reset with h.fsm := .error, regs.err := .invalidGeometry }

/-! ### Decoding: one word for each row -/

theorem test_decode_nop : decode 0x00000100#32 = .nop true := by decide
theorem test_decode_pack : decode 0x00000001#32 = .pack false := by decide
theorem test_decode_unpack : decode 0x00000102#32 = .unpack true := by decide
theorem test_decode_encHeader : decode 0x00000003#32 = .encHeader false := by decide
theorem test_decode_encRecord : decode 0x00000104#32 = .encRecord true := by decide
theorem test_decode_decHeader : decode 0x00000105#32 = .decHeader true := by decide
theorem test_decode_decRecord : decode 0x00000106#32 = .decRecord true := by decide
theorem test_decode_reserved7 : decode 0x00000007#32 = .reserved7 false := by decide
theorem test_decode_reserved8 : decode 0x00000108#32 = .reserved8 true := by decide
theorem test_decode_reserved9 : decode 0x00000009#32 = .reserved9 false := by decide
theorem test_decode_reservedA : decode 0x0000010A#32 = .reservedA true := by decide
theorem test_decode_reservedB : decode 0x0000000B#32 = .reservedB false := by decide
theorem test_decode_reservedC : decode 0x0000010C#32 = .reservedC true := by decide
theorem test_decode_reservedD : decode 0x0000000D#32 = .reservedD false := by decide
theorem test_decode_reservedE : decode 0x0000010E#32 = .reservedE true := by decide
theorem test_decode_reservedF : decode 0x0000000F#32 = .reservedF false := by decide
theorem test_decode_srst_alone : decode 0x80000000#32 = .srst := by decide
theorem test_decode_srst_wins : decode 0x80000103#32 = .srst := by decide
theorem test_decode_ignores_reserved_bits : decode 0x7FFFFEF6#32 = .decRecord false := by decide
theorem test_decode_table_word : decodeTableWord 32 0x00000104 = some (.encRecord true) := by decide
theorem test_decode_table_word_too_long : decodeTableWord 40 0x00000104 = none := by decide
theorem test_decode_not_ctrl : decodeWrite 0x08#6 0x00000001#32 = .error .notCtrl := rfl
theorem test_decode_ctrl_low_bits_ignored : decodeWrite 0x03#6 0x00000001#32 = .ok (.pack false) := rfl

/-! ### Well-formedness: each check refuses a word -/

theorem test_wf_low_reserved : lowReservedClear 0x00000010#32 = false ∧ canonicalWord 0x00000010#32 = false := by decide
theorem test_wf_high_reserved :
    highReservedClear 0x00000200#32 = false ∧ canonicalWord 0x40000000#32 = false := by decide
theorem test_wf_srst_alone : srstAlone 0x80000003#32 = false ∧ canonicalWord 0x80000100#32 = false := by decide
theorem test_wf_accepts : canonicalWord 0x00000106#32 = true ∧ canonicalWord 0x80000000#32 = true := by decide

/-! ### Single steps (95_test_vectors.md) -/

theorem test_nop_clears_ie_keeps_done :
    let t := nextOf (step ({ State.reset with regs.ie := true, regs.done := true }.withFetchWord 32 0))
    t.irq = false ∧ t.regs.done = true := by decide
theorem test_pack : (nextOf (exec (.pack false) (operands 0x12 0x34))).regs.dpResult = 0x00000031 := by decide
theorem test_pack_dropped_in_error : (nextOf (exec (.pack false) failed)).statusWord = 0x00000237 := by decide
theorem test_unpack : (nextOf (exec (.unpack true) (operands 0xCA 0))).regs.dpResult = 0x0000C0A0 := by decide
theorem test_unpack_raises_irq : (nextOf (exec (.unpack true) (operands 0xCA 0))).irq = true := by decide
theorem test_encHeader_status : (nextOf (exec (.encHeader false) State.reset)).statusWord = 0x00000009 := by decide
theorem test_encHeader_fourth_byte :
    (blockNextOf { inPhase .encHdr 4 with regs.hdrIdent := 0x12345678 }).io.bout = [0x12#8] := by decide
theorem test_encRecord_odd_width :
    (nextOf (exec (.encRecord false) (image 5 1))).statusWord = 0x00000037 := by decide
theorem test_encRecord_sample_pair :
    (blockNextOf { encoding 2 1 with h.hold := 0x1 }).io.bout = [0x31#8] := by decide
theorem test_decHeader_bad_version :
    (blockNextOf { withBin (inPhase .decHdr 8) [.byte 0xFF#8] with h.buf := Vector.replicate 9 2 }).statusWord
      = 0x00000017 := by decide
theorem test_decHeader_end : (blockNextOf (withBin (inPhase .decHdr 8) [.endOfStream])).statusWord = 0x00000027 := by
  decide
theorem test_decRecord_lone_byte :
    (blockNextOf (withBin (inPhase .decGeom 1) [.endOfStream])).statusWord = 0x00000180 := by decide
theorem test_decRecord_writes :
    (blockNextOf (decoding 0)).io.pout = [{ x := 0, y := 0, v := 0xA0 }, { x := 1, y := 0, v := 0xC0 }] := by decide
theorem test_reserved7 : (nextOf (exec (.reserved7 false) State.reset)).statusWord = 0x00000057 := by decide
theorem test_reserved8 : (nextOf (exec (.reserved8 false) State.reset)).statusWord = 0x00000057 := by decide
theorem test_reserved9 : (nextOf (exec (.reserved9 false) State.reset)).statusWord = 0x00000057 := by decide
theorem test_reservedA : (nextOf (exec (.reservedA false) State.reset)).statusWord = 0x00000057 := by decide
theorem test_reservedB : (nextOf (exec (.reservedB false) State.reset)).statusWord = 0x00000057 := by decide
theorem test_reservedC : (nextOf (exec (.reservedC false) State.reset)).statusWord = 0x00000057 := by decide
theorem test_reservedD : (nextOf (exec (.reservedD false) State.reset)).statusWord = 0x00000057 := by decide
theorem test_reservedE : (nextOf (exec (.reservedE false) State.reset)).statusWord = 0x00000057 := by decide
theorem test_reservedF_dropped :
    (nextOf (exec (.reservedF false) (inPhase .encHdr 0))).statusWord = 0x00000209 := by decide
theorem test_srst_clears_error :
    (nextOf (step (failed.withFetchWord 32 0x80000003))).statusWord = 0
      ∧ (nextOf (step (failed.withFetchWord 32 0x80000003))).host.agenda = [] := by decide
theorem test_srst_overrides_ie : (nextOf (step ({ failed with regs.ie := true }.withFetchWord 32 0x80000100))).regs.ie
    = false := by decide
theorem test_window_absolute : payLenOf (scanWindow .absolute 2 1 6 3) = 4 := by decide
theorem test_window_size : payLenOf (scanWindow .size 2 1 6 3) = 9 := by decide

/-! ### Witnesses: encoding, steps and turns -/

theorem witness_DecodeEncodeAgree : Instr.wf (.encRecord true) = true ∧ canonicalWord 0x00000104#32 = true := by decide

theorem witness_WordsOfTheSpecDecode :
    (0x01#6) &&& 0x3C#6 = 0x00#6 ∧ (0x02#6) &&& 0x3C#6 = 0x00#6 ∧ (0x03#6) &&& 0x3C#6 = 0x00#6
      ∧ (0x04#6) &&& 0x3C#6 ≠ 0x00#6 := by decide

theorem witness_StepRunsDecodedCommand :
    (acting State.reset (.regWrite 0x03 0x104)).host.agenda = .host (.regWrite 0x03 0x104) :: []
      ∧ decodeWrite 0x03 0x104 = .ok (.encRecord true) ∧ Instr.wf (.encRecord true) = true := ⟨rfl, rfl, rfl⟩

theorem witness_StepTakesTurns_empty :
    (inPhase .encHdr 0).host.agenda = [] ∧ (blockStep (inPhase .encHdr 0)).isSome = true
      ∧ State.reset.host.agenda = [] ∧ blockStep State.reset = none := ⟨rfl, rfl, rfl, rfl⟩

theorem witness_StepTakesTurns_wait_busy :
    let s := { inPhase .encHdr 0 with host.agenda := [.wait] }
    let held := { inPhase .decHdr 0 with host.agenda := [.wait] }
    s.busy = true ∧ s.host.agenda = .wait :: [] ∧ (blockStep s).isSome = true
      ∧ held.busy = true ∧ held.host.agenda = .wait :: [] ∧ blockStep held = none := ⟨rfl, rfl, rfl, rfl, rfl, rfl⟩

theorem witness_StepTakesTurns_block :
    let s := { inPhase .encHdr 0 with host.agenda := [.block] }
    let idle := { State.reset with host.agenda := [.block] }
    s.host.agenda = .block :: [] ∧ (blockStep { s with host.agenda := [] }).isSome = true
      ∧ idle.host.agenda = .block :: [] ∧ blockStep { idle with host.agenda := [] } = none := ⟨rfl, rfl, rfl, rfl⟩

theorem witness_StepTakesTurns_wait_idle :
    let s := { State.reset with host.agenda := [.wait] }
    s.host.agenda = .wait :: [] ∧ s.busy = false := ⟨rfl, rfl⟩

/-! ### Witnesses: commands at acceptance -/

theorem witness_NopWritesOnlyIe :
    (0x00000100#32).getLsbD 31 = false ∧ (0x00000100#32).extractLsb' 0 4 = 0x0#4 := by decide
theorem witness_PackInIdle :
    (0x7FFFFFF1#32).getLsbD 31 = false ∧ (0x7FFFFFF1#32).extractLsb' 0 4 = 0x1#4
      ∧ (operands 0x12 0x34).h.fsm = .idle := by decide
theorem witness_UnpackInIdle :
    (0x00000102#32).getLsbD 31 = false ∧ (0x00000102#32).extractLsb' 0 4 = 0x2#4
      ∧ (operands 0xCA 0).h.fsm = .idle := by decide
theorem witness_MultiStepCommandsStart : State.reset.h.fsm = .idle := rfl

theorem witness_EncRecordAccepted_largest :
    (image 960 540).h.fsm = .idle ∧ (image 960 540).regs.w.toNat ≤ 960 ∧ (image 960 540).regs.ht.toNat ≤ 540
      ∧ (image 960 540).regs.w.toNat % 2 = 0 := by decide
theorem witness_EncRecordAccepted_empty :
    (image 0 0).h.fsm = .idle ∧ (image 0 0).regs.w.toNat ≤ 960 ∧ (image 0 0).regs.ht.toNat ≤ 540
      ∧ (image 0 0).regs.w.toNat % 2 = 0 := by decide
theorem witness_EncRecordRejected_size :
    (image 961 1).h.fsm = .idle ∧ (image 961 1).regs.w.toNat > 960
      ∧ (image 2 541).h.fsm = .idle ∧ (image 2 541).regs.ht.toNat > 540 := by decide
theorem witness_EncRecordRejected_odd :
    (image 959 540).h.fsm = .idle ∧ (image 959 540).regs.w.toNat ≤ 960 ∧ (image 959 540).regs.ht.toNat ≤ 540
      ∧ (image 959 540).regs.w.toNat % 2 = 1 := by decide

theorem witness_ReservedCodesRaiseIllegalCommand :
    (0x00000007#32).getLsbD 31 = false ∧ 7 ≤ ((0x00000007#32).extractLsb' 0 4).toNat
      ∧ Instr.reservedF true ∈ reservedRows true ∧ State.reset.h.fsm = .idle ∧ failed.h.fsm ≠ .idle := by decide
theorem witness_CommandsOutsideIdleAreDropped :
    (inPhase .encHdr 0).h.fsm ≠ .idle ∧ failed.h.fsm ≠ .idle
      ∧ Instr.reserved7 false ∈ [Instr.pack false, .unpack false, .encHeader false, .encRecord false,
          .decHeader false, .decRecord false] ++ reservedRows false := by decide
theorem witness_BothResetsAgree :
    (acting failed .resetPin).host.agenda = .host .resetPin :: [] := rfl

/-! ### Witnesses: BLOCK steps -/

theorem witness_EncHdrStep :
    (inPhase .encHdr 0).h.fsm = .encHdr ∧ (inPhase .encHdr 0).h.idx.toNat < 9
      ∧ (inPhase .encHdr 8).h.fsm = .encHdr ∧ (inPhase .encHdr 8).h.idx.toNat < 9 := by decide
theorem witness_EncGeomStep :
    (inPhase .encGeom 6).h.fsm = .encGeom ∧ (inPhase .encGeom 6).h.idx.toNat < 8
      ∧ (inPhase .encGeom 7).h.fsm = .encGeom ∧ (inPhase .encGeom 7).h.idx.toNat < 8 := by decide
theorem witness_EncPixStep_held :
    { encoding 4 3 with io.pin := [] }.h.fsm = .encPix ∧ { encoding 4 3 with io.pin := [] }.io.pin = [] := by decide
theorem witness_EncPixStep :
    (encoding 4 0).h.fsm = .encPix ∧ (encoding 4 0).io.pin = 0x34#8 :: []
      ∧ (encoding 4 3).h.fsm = .encPix ∧ (encoding 4 3).io.pin = 0x34#8 :: [] := by decide
theorem witness_DecHdrByteStep :
    let s := fun i => withBin (inPhase .decHdr i) [.byte 1#8]
    (s 7).h.fsm = .decHdr ∧ (s 7).io.bin = .byte 1#8 :: [] ∧ (s 7).h.idx.toNat < 8
      ∧ (s 8).h.fsm = .decHdr ∧ (s 8).io.bin = .byte 1#8 :: [] ∧ (s 8).h.idx = 8 := by decide
theorem witness_DecGeomByteStep :
    let s := fun i => withBin (inPhase .decGeom i) [.byte 1#8]
    (s 6).h.fsm = .decGeom ∧ (s 6).io.bin = .byte 1#8 :: [] ∧ (s 6).h.idx.toNat < 7
      ∧ (s 7).h.fsm = .decGeom ∧ (s 7).io.bin = .byte 1#8 :: [] ∧ (s 7).h.idx = 7
      ∧ (0x0100#16 : Half) = 1#8 ++ (s 7).h.buf[6] := by decide
theorem witness_DecGeomEndStep :
    let s := fun i => withBin (inPhase .decGeom i) [.endOfStream]
    (s 1).h.fsm = .decGeom ∧ (s 1).io.bin = .endOfStream :: [] ∧ (s 1).h.idx.toNat < 2
      ∧ (s 2).h.fsm = .decGeom ∧ (s 2).io.bin = .endOfStream :: [] ∧ 2 ≤ (s 2).h.idx.toNat := by decide
theorem witness_DecPixByteStep :
    (decoding 0).h.fsm = .decPix ∧ (decoding 0).io.bin = .byte 0xCA#8 :: []
      ∧ (decoding 2).h.fsm = .decPix ∧ (decoding 2).io.bin = .byte 0xCA#8 :: [] := by decide
theorem witness_EndTokenTruncates :
    (withBin (inPhase .decHdr 0) [.endOfStream]).h.fsm = .decHdr
      ∧ (withBin (inPhase .decHdr 0) [.endOfStream]).io.bin = .endOfStream :: []
      ∧ (withBin (decoding 2) [.endOfStream]).h.fsm = .decPix
      ∧ (withBin (decoding 2) [.endOfStream]).io.bin = .endOfStream :: [] := by decide

/-! ### Witnesses: data functions -/

theorem witness_WindowOfEachExtentMode :
    ({ xs := 5, xe := 4, ys := 0, ye := 1 } : Window) = scanWindow .absolute 5 0 4 1 ∧ (4 : Half) ≤ 5
      ∧ ({ xs := 0, xe := 4, ys := 0, ye := 2 } : Window) = scanWindow .absolute 0 0 4 2 := by decide
theorem witness_PayloadLengthIsExact :
    ({ xs := 2, xe := 8, ys := 1, ye := 4 } : Window) = scanWindow .size 2 1 6 3 ∧ (6 : Half).toNat % 2 = 0
      ∧ ({ xs := 0xFFFF, xe := 0x1FFFE, ys := 0xFFFF, ye := 0x1FFFE } : Window)
          = scanWindow .size 0xFFFF 0xFFFF 0xFFFF 0xFFFF := by decide

/-! ### Witnesses: whole commands -/

theorem witness_EncHeaderEmitsNineBytes : State.reset.h.fsm = .idle ∧ State.reset.host.agenda = [] := by decide
theorem witness_DecHeaderLoadsNineBytes :
    let s := fun v => withBin State.reset (asTokens (headerBytes v 0x12345678 60) ++ [.endOfStream])
    (s 1).h.fsm = .idle ∧ (s 1).host.agenda = []
      ∧ (s 1).io.bin = asTokens (headerBytes 1 0x12345678 60) ++ [.endOfStream]
      ∧ (s 2).h.fsm = .idle ∧ (s 2).host.agenda = []
      ∧ (s 2).io.bin = asTokens (headerBytes 2 0x12345678 60) ++ [.endOfStream] := by decide
theorem witness_DecHeaderTruncated :
    let s := fun bs : List Byte => withBin State.reset (asTokens bs ++ .endOfStream :: [])
    (s []).h.fsm = .idle ∧ (s []).host.agenda = [] ∧ ([] : List Byte).length < 9
      ∧ (s []).io.bin = asTokens [] ++ .endOfStream :: []
      ∧ ([2, 0, 0, 0, 0, 0, 0, 0] : List Byte).length < 9
      ∧ (s [2, 0, 0, 0, 0, 0, 0, 0]).io.bin = asTokens [2, 0, 0, 0, 0, 0, 0, 0] ++ .endOfStream :: [] := by decide

/-- The reset state with a header of version `v` to encode. -/
def header (v : Byte) : State := { State.reset with regs.hdrVersion := v }

/-- The accepted ENC_HEADER of `header v`. -/
def encHeaderStarted (v : Byte) : State := nextOf (exec (.encHeader false) (header v))

/-- The same after its nine steps. -/
def encHeaderEnded (v : Byte) : State := nextOf (Host.Core.run Sys2Proof.core 9 (encHeaderStarted v))

/-- The hypotheses of the header round trip. -/
abbrev HeaderRoundTripHolds (v : Byte) : Prop :=
  let r := withBin State.reset (asTokens ((encHeaderEnded v).io.bout.drop (header v).io.bout.length) ++ [])
  (header v).h.fsm = .idle ∧ (header v).host.agenda = []
    ∧ exec (.encHeader false) (header v) = .next (encHeaderStarted v)
    ∧ Host.Core.run Sys2Proof.core 9 (encHeaderStarted v) = .next (encHeaderEnded v)
    ∧ r.h.fsm = .idle ∧ r.host.agenda = []
    ∧ r.io.bin = asTokens ((encHeaderEnded v).io.bout.drop (header v).io.bout.length) ++ []

theorem witness_HeaderRoundTrip_supported : HeaderRoundTripHolds 1 ∧ (header 1).regs.hdrVersion = 1 :=
  ⟨⟨rfl, rfl, rfl, rfl, rfl, rfl, rfl⟩, rfl⟩
theorem witness_HeaderRoundTrip_rejected : HeaderRoundTripHolds 2 ∧ (header 2).regs.hdrVersion ≠ 1 :=
  ⟨⟨rfl, rfl, rfl, rfl, rfl, rfl, rfl⟩, by decide⟩

/-- The reset state with a 2 by 1 image to encode and its samples on PIN. -/
def twoPixels : State := { image 2 1 with io.pin := [0x80#8, 0x70#8] }

theorem witness_EncRecordEmitsDescriptorAndPayload :
    twoPixels.h.fsm = .idle ∧ twoPixels.host.agenda = [] ∧ twoPixels.regs.w.toNat ≤ 960
      ∧ twoPixels.regs.ht.toNat ≤ 540 ∧ twoPixels.regs.w.toNat % 2 = 0
      ∧ ([0x80#8, 0x70#8] : List Byte).length = twoPixels.regs.w.toNat * twoPixels.regs.ht.toNat
      ∧ twoPixels.io.pin = [0x80#8, 0x70#8] ++ [] := by decide
theorem witness_EncRecordEmitsDescriptorAndPayload_empty :
    (image 0 5).h.fsm = .idle ∧ (image 0 5).host.agenda = [] ∧ (image 0 5).regs.w.toNat ≤ 960
      ∧ (image 0 5).regs.ht.toNat ≤ 540 ∧ (image 0 5).regs.w.toNat % 2 = 0
      ∧ ([] : List Byte).length = (image 0 5).regs.w.toNat * (image 0 5).regs.ht.toNat
      ∧ (image 0 5).io.pin = [] ++ [] := by decide
theorem witness_EncRecordHoldsWithoutSamples :
    let s := { image 4 2 with io.pin := [0x12#8, 0x34#8, 0xAB#8, 0xCD#8, 0xFF#8] }
    s.h.fsm = .idle ∧ s.regs.err = .none ∧ s.host.agenda = [] ∧ s.regs.w.toNat ≤ 960 ∧ s.regs.ht.toNat ≤ 540
      ∧ s.regs.w.toNat % 2 = 0 ∧ s.io.pin.length < s.regs.w.toNat * s.regs.ht.toNat := by decide
theorem witness_DecRecordPaintsItsWindow :
    let s := withBin State.reset (asTokens (geometryBytes 0 0 3 1 ++ [0xAB#8, 0xCD#8]) ++ [.endOfStream])
    s.h.fsm = .idle ∧ s.host.agenda = []
      ∧ ([0xAB#8, 0xCD#8] : List Byte).length = (payLenOf (scanWindow s.extentMode 0 0 3 1)).toNat
      ∧ s.io.bin = asTokens (geometryBytes 0 0 3 1 ++ [0xAB#8, 0xCD#8]) ++ [.endOfStream] := by decide
theorem witness_DecRecordPaintsItsWindow_absolute :
    let s := fun x0 bs => { withBin State.reset (asTokens (geometryBytes x0 0 4 1 ++ bs) ++ []) with
      extentMode := .absolute }
    (s 1 [0xAB#8, 0xCD#8]).h.fsm = .idle ∧ (s 1 [0xAB#8, 0xCD#8]).host.agenda = []
      ∧ ([0xAB#8, 0xCD#8] : List Byte).length
          = (payLenOf (scanWindow (s 1 [0xAB#8, 0xCD#8]).extentMode 1 0 4 1)).toNat
      ∧ (s 1 [0xAB#8, 0xCD#8]).io.bin = asTokens (geometryBytes 1 0 4 1 ++ [0xAB#8, 0xCD#8]) ++ []
      ∧ (s 5 []).h.fsm = .idle ∧ (s 5 []).host.agenda = []
      ∧ ([] : List Byte).length = (payLenOf (scanWindow (s 5 []).extentMode 5 0 4 1)).toNat
      ∧ (s 5 []).io.bin = asTokens (geometryBytes 5 0 4 1 ++ []) ++ [] := by decide
theorem witness_DecRecordCleanEnd :
    let s := fun bs : List Byte => withBin State.reset (asTokens bs ++ .endOfStream :: [])
    (s []).h.fsm = .idle ∧ (s []).host.agenda = [] ∧ ([] : List Byte).length ≤ 1
      ∧ (s []).io.bin = asTokens [] ++ .endOfStream :: []
      ∧ ([7] : List Byte).length ≤ 1 ∧ (s [7]).io.bin = asTokens [7] ++ .endOfStream :: [] := by decide
theorem witness_DecRecordTruncatedInDescriptor :
    let s := fun bs : List Byte => withBin State.reset (asTokens bs ++ .endOfStream :: [])
    (s [0, 0]).h.fsm = .idle ∧ (s [0, 0]).host.agenda = [] ∧ 2 ≤ ([0, 0] : List Byte).length
      ∧ ([0, 0] : List Byte).length ≤ 7 ∧ (s [0, 0]).io.bin = asTokens [0, 0] ++ .endOfStream :: []
      ∧ 2 ≤ ([0, 0, 4, 0, 2, 0, 1] : List Byte).length ∧ ([0, 0, 4, 0, 2, 0, 1] : List Byte).length ≤ 7
      ∧ (s [0, 0, 4, 0, 2, 0, 1]).io.bin = asTokens [0, 0, 4, 0, 2, 0, 1] ++ .endOfStream :: [] := by decide
theorem witness_DecRecordTruncatedInPayload :
    let s := fun bs : List Byte => withBin State.reset (asTokens (geometryBytes 0 0 4 1 ++ bs) ++ .endOfStream :: [])
    (s []).h.fsm = .idle ∧ (s []).host.agenda = []
      ∧ ([] : List Byte).length < (payLenOf (scanWindow (s []).extentMode 0 0 4 1)).toNat
      ∧ (s []).io.bin = asTokens (geometryBytes 0 0 4 1 ++ []) ++ .endOfStream :: []
      ∧ ([9] : List Byte).length < (payLenOf (scanWindow (s [9]).extentMode 0 0 4 1)).toNat
      ∧ (s [9]).io.bin = asTokens (geometryBytes 0 0 4 1 ++ [9]) ++ .endOfStream :: [] := by decide

/-- The accepted ENC_RECORD of `twoPixels`. -/
def encRecordStarted : State := nextOf (exec (.encRecord false) twoPixels)

/-- The same after its ten steps. -/
def encRecordEnded : State := nextOf (Host.Core.run Sys2Proof.core 10 encRecordStarted)

theorem witness_RecordRoundTrip :
    let r := withBin State.reset (asTokens (encRecordEnded.io.bout.drop twoPixels.io.bout.length) ++ [])
    twoPixels.h.fsm = .idle ∧ twoPixels.host.agenda = []
      ∧ exec (.encRecord false) twoPixels = .next encRecordStarted
      ∧ Host.Core.run Sys2Proof.core (8 + ([0x80#8, 0x70#8] : List Byte).length) encRecordStarted = .next encRecordEnded
      ∧ r.h.fsm = .idle ∧ r.host.agenda = [] ∧ r.extentMode = .size
      ∧ (twoPixels.regs.x0 = 0 ∧ twoPixels.regs.y0 = 0)
      ∧ r.io.bin = asTokens (encRecordEnded.io.bout.drop twoPixels.io.bout.length) ++ [] :=
  ⟨rfl, rfl, rfl, rfl, rfl, rfl, rfl, ⟨rfl, rfl⟩, rfl⟩

theorem witness_RecordRoundTrip_absolute :
    let r := { withBin State.reset (asTokens (encRecordEnded.io.bout.drop twoPixels.io.bout.length) ++ []) with
      extentMode := .absolute }
    r.h.fsm = .idle ∧ r.host.agenda = [] ∧ r.extentMode = .absolute ∧ (twoPixels.regs.x0 = 0 ∧ twoPixels.regs.y0 = 0)
      ∧ r.io.bin = asTokens (encRecordEnded.io.bout.drop twoPixels.io.bout.length) ++ [] :=
  ⟨rfl, rfl, rfl, ⟨rfl, rfl⟩, rfl⟩

theorem witness_RecordRoundTrip_image :
    twoPixels.regs.w.toNat ≤ 960 ∧ twoPixels.regs.ht.toNat ≤ 540 ∧ twoPixels.regs.w.toNat % 2 = 0
      ∧ ([0x80#8, 0x70#8] : List Byte).length = twoPixels.regs.w.toNat * twoPixels.regs.ht.toNat
      ∧ twoPixels.io.pin = [0x80#8, 0x70#8] ++ [] ∧ ∀ p ∈ ([0x80#8, 0x70#8] : List Byte), p.toNat % 16 = 0 := by decide

/-! ### Witnesses: invariants and whole-machine rules -/

theorem witness_EveryStepKeepsTheInvariant_encode :
    (encoding 4 3).Inv ∧ step (encoding 4 3) = .next (nextOf (step (encoding 4 3))) := ⟨by decide, rfl⟩
theorem witness_EveryStepKeepsTheInvariant_decode :
    (decoding 2).Inv ∧ step (decoding 2) = .next (nextOf (step (decoding 2))) := ⟨by decide, rfl⟩
theorem witness_NoStepFaultsOrRefuses : (inPhase .encHdr 8).Inv := by decide
theorem witness_ErrorIsTerminalUntilReset :
    let s := failed.withFetchWord 32 0x00000001
    s.h.fsm = .error ∧ step s = .next (nextOf (step s)) ∧ s.resetNext = false := ⟨rfl, rfl, rfl⟩
theorem witness_ErrorEntryLatchesACode_command :
    let s := State.reset.withFetchWord 32 0x00000007
    s.Inv ∧ s.h.fsm ≠ .error ∧ step s = .next (nextOf (step s)) ∧ (nextOf (step s)).h.fsm = .error :=
  ⟨by decide, by decide, rfl, rfl⟩
theorem witness_ErrorEntryLatchesACode_block :
    let s := withBin (inPhase .decHdr 0) [.endOfStream]
    s.Inv ∧ s.h.fsm ≠ .error ∧ step s = .next (nextOf (step s)) ∧ (nextOf (step s)).h.fsm = .error :=
  ⟨by decide, by decide, rfl, rfl⟩
theorem witness_BlockStepsAreBounded :
    (encoding 4 3).Inv ∧ blockStep (encoding 4 3) = some (.next (blockNextOf (encoding 4 3)))
      ∧ (decoding 0).Inv ∧ blockStep (decoding 0) = some (.next (blockNextOf (decoding 0))) :=
  ⟨by decide, rfl, by decide, rfl⟩

theorem witness_FlagsChangeForTheirCauses_done :
    let s := State.reset.withFetchWord 32 0x00000001
    step s = .next (nextOf (step s)) ∧ s.regs.done = false ∧ (nextOf (step s)).regs.done = true := ⟨rfl, rfl, rfl⟩
theorem witness_FlagsChangeForTheirCauses_eos :
    let s := withBin (inPhase .decGeom 1) [.endOfStream]
    step s = .next (nextOf (step s)) ∧ s.regs.eos = false ∧ (nextOf (step s)).regs.eos = true := ⟨rfl, rfl, rfl⟩
theorem witness_FlagsChangeForTheirCauses_clear :
    let s := { State.reset with regs.done := true, regs.eos := true }.withFetchWord 32 0x00000003
    step s = .next (nextOf (step s)) ∧ s.regs.done = true ∧ (nextOf (step s)).regs.done = false
      ∧ s.regs.eos = true ∧ (nextOf (step s)).regs.eos = false := ⟨rfl, rfl, rfl, rfl, rfl⟩
theorem witness_FlagsChangeForTheirCauses_drop :
    let s := failed.withFetchWord 32 0x00000001
    step s = .next (nextOf (step s)) ∧ s.regs.cmdDrop = false ∧ (nextOf (step s)).regs.cmdDrop = true :=
  ⟨rfl, rfl, rfl⟩
theorem witness_FlagsChangeForTheirCauses_dropClear :
    let s := acting { failed with regs.cmdDrop := true } (.regWrite 0x04 0x200)
    step s = .next (nextOf (step s)) ∧ s.regs.cmdDrop = true ∧ (nextOf (step s)).regs.cmdDrop = false :=
  ⟨rfl, rfl, rfl⟩
theorem witness_FlagsChangeForTheirCauses_err :
    let s := (image 5 1).withFetchWord 32 0x00000004
    step s = .next (nextOf (step s)) ∧ (nextOf (step s)).regs.err ≠ s.regs.err := ⟨rfl, by decide⟩
theorem witness_FlagsChangeForTheirCauses_ie :
    let s := (inPhase .encHdr 0).withFetchWord 32 0x00000100
    step s = .next (nextOf (step s)) ∧ (nextOf (step s)).regs.ie ≠ s.regs.ie := ⟨rfl, by decide⟩
theorem witness_ReadOnlyRegistersChangeForTheirCauses_dpResult :
    let s := (operands 0x12 0x34).withFetchWord 32 0x00000001
    step s = .next (nextOf (step s)) ∧ (nextOf (step s)).regs.dpResult ≠ s.regs.dpResult := ⟨rfl, by decide⟩
theorem witness_ReadOnlyRegistersChangeForTheirCauses_payLen :
    let s := (image 4 2).withFetchWord 32 0x00000004
    let d := { withBin (inPhase .decGeom 7) [.byte 1#8] with h.buf := Vector.replicate 9 1 }
    step s = .next (nextOf (step s)) ∧ (nextOf (step s)).regs.payLen ≠ s.regs.payLen
      ∧ step d = .next (nextOf (step d)) ∧ (nextOf (step d)).regs.payLen ≠ d.regs.payLen :=
  ⟨rfl, by decide, rfl, by decide⟩

/-! ### Witnesses: register port -/

theorem witness_IgnoredRegisterWrites_busy :
    let s := acting (inPhase .encHdr 0) (.regWrite 0x08 0xFF)
    s.host.agenda = .host (.regWrite 0x08 0xFF) :: [] ∧ s.busy = true ∧ 0x08 ≤ ((0x08#6) &&& 0x3C#6).toNat := by decide
theorem witness_IgnoredRegisterWrites_readOnly :
    let s := acting State.reset (.regWrite 0x20 0xFF)
    s.host.agenda = .host (.regWrite 0x20 0xFF) :: [] ∧ 0x20 ≤ ((0x20#6) &&& 0x3C#6).toNat
      ∧ 0x20 ≤ ((0x3F#6) &&& 0x3C#6).toNat := by decide
theorem witness_DataRegisterWriteReadsBack :
    let s := acting State.reset (.regWrite 0x1F 0xDEADBEEF)
    s.host.agenda = .host (.regWrite 0x1F 0xDEADBEEF) :: [] ∧ s.busy = false
      ∧ ((0x1F#6) &&& 0x3C#6, 0x0000FFFF#32) ∈ [(0x08#6, 0x000000FF#32), (0x0C#6, 0xFFFFFFFF#32),
        (0x10#6, 0xFFFFFFFF#32), (0x14#6, 0xFFFFFFFF#32), (0x18#6, 0xFFFFFFFF#32), (0x1C#6, 0x0000FFFF#32)] := by decide
theorem witness_DataRegisterWriteReadsBack_error :
    (acting failed (.regWrite 0x08 0x1FF)).host.agenda = .host (.regWrite 0x08 0x1FF) :: []
      ∧ (acting failed (.regWrite 0x08 0x1FF)).busy = false := by decide
theorem witness_StatusWriteClearsOnlyCmdDrop :
    (acting failed (.regWrite 0x07 0x200)).host.agenda = .host (.regWrite 0x07 0x200) :: []
      ∧ (0x07#6) &&& 0x3C#6 = 0x04#6 := by decide
theorem witness_RegisterReadIsPure :
    (acting failed (.regRead 0x28)).host.agenda = .host (.regRead 0x28) :: []
      ∧ 0x28 ≤ ((0x28#6) &&& 0x3C#6).toNat := by decide

/-! ### Witnesses: streams and order -/

theorem witness_OutputsOnlyGrow :
    step (encoding 4 3) = .next (nextOf (step (encoding 4 3)))
      ∧ (nextOf (step (encoding 4 3))).io.bout ≠ (encoding 4 3).io.bout
      ∧ step (decoding 2) = .next (nextOf (step (decoding 2)))
      ∧ (nextOf (step (decoding 2))).io.pout ≠ (decoding 2).io.pout := ⟨rfl, by decide, rfl, by decide⟩
theorem witness_InputsAreFifos :
    let s := acting failed (.binAppend (.byte 7))
    step s = .next (nextOf (step s)) ∧ (nextOf (step s)).io.bin = s.io.bin ++ [.byte 7] := ⟨rfl, rfl⟩
theorem witness_AppendsCommuteWithBlockSteps :
    blockStep (encoding 4 3) = some (.next (blockNextOf (encoding 4 3)))
      ∧ blockStep (decoding 2) = some (.next (blockNextOf (decoding 2))) := ⟨rfl, rfl⟩
theorem witness_AnEndedRunIsOneOfThree :
    State.reset.Inv ∧ State.reset.EndedWell ∧ (inPhase .decHdr 8).Inv ∧ (inPhase .decHdr 8).Held
      ∧ failed.Inv ∧ failed.Failed :=
  ⟨by decide, by decide, by decide, by decide, by decide, by decide⟩
theorem witness_AnEndedRunIsOneOfThree_blockTurns :
    let left := fun s : State => { s with host.agenda := [.block] }
    (left State.reset).Inv ∧ (left State.reset).EndedWell ∧ (left (inPhase .decHdr 8)).Inv
      ∧ (left (inPhase .decHdr 8)).Held ∧ (left failed).Inv ∧ (left failed).Failed :=
  ⟨by decide, by decide, by decide, by decide, by decide, by decide⟩
theorem witness_LaterWriteWinsOnTheCanvas_step :
    (decoding 2).h.fsm = .decPix ∧ (decoding 2).io.bin = .byte 0xCA#8 :: []
      ∧ blockStep (decoding 2) = some (.next (blockNextOf (decoding 2)))
      ∧ step (decoding 2) = .next (nextOf (step (decoding 2)))
      ∧ canvasAt (nextOf (step (decoding 2))).io.pout 3 0 ≠ canvasAt (decoding 2).io.pout 3 0 :=
  ⟨rfl, rfl, rfl, rfl, by decide⟩
theorem witness_LaterWriteWinsOnTheCanvas_record :
    let v := scanWindow .size 0 0 3 1
    let s := withBin { State.reset with io.pout := [{ x := 3, y := 0, v := 0x10 }] }
      (asTokens (geometryBytes 0 0 3 1 ++ [0xAB#8, 0xCD#8]) ++ [])
    s.h.fsm = .idle ∧ s.host.agenda = [] ∧ v = scanWindow s.extentMode 0 0 3 1
      ∧ ([0xAB#8, 0xCD#8] : List Byte).length = (payLenOf v).toNat
      ∧ s.io.bin = asTokens (geometryBytes 0 0 3 1 ++ [0xAB#8, 0xCD#8]) ++ []
      ∧ ([0xAB#8, 0xCD#8] : List Byte)[1]? = some 0xCD#8 ∧ (2 : Coord).toNat = v.xs.toNat + 2 * (1 % bytesPerRow v)
      ∧ (0 : Coord).toNat = v.ys.toNat + 1 / bytesPerRow v
      ∧ ¬(v.xs.toNat ≤ (4 : Coord).toNat ∧ (4 : Coord).toNat < v.xs.toNat + 2 * bytesPerRow v
          ∧ v.ys.toNat ≤ (0 : Coord).toNat ∧ (0 : Coord).toNat < v.ye.toNat)
      ∧ ∀ p ∈ s.io.pout, ¬(p.x = 4 ∧ p.y = 0) := by decide
theorem witness_StoredSumsDoNotWrap :
    (encoding 4 3).Inv ∧ (encoding 4 3).h.fsm = .encPix ∧ (decoding 2).Inv ∧ (decoding 2).h.fsm = .decPix :=
  ⟨by decide, rfl, by decide, rfl⟩
theorem witness_HostReadsOutputsInOrder :
    (acting { failed with io.bout := [1#8] } .boutTake).host.agenda = .host .boutTake :: []
      ∧ (acting failed .poutTake).host.agenda = .host .poutTake :: [] := by decide
theorem witness_HostAppendsAtTheTail :
    (acting failed (.binAppend .endOfStream)).host.agenda = .host (.binAppend .endOfStream) :: []
      ∧ (acting failed (.pinAppend 5)).host.agenda = .host (.pinAppend 5) :: [] := by decide

end Sys2Proof.Tests
end

