-- ==== Sys2Proof/Proofs/ReservedCodes.lean ====
section
/-! The reserved codes, CMD 0x7 to 0xF: which words decode to them, and the one effect the nine rows share
(spec/30_encoding.md R92, spec/60_exceptions.md R226). -/

namespace Sys2Proof.Machine

/-- The codes from 0x7 up, read as `decode` reads them, bit 3 first: either bit 3 is 1, or the code is 0x7 itself. -/
theorem seven_le_toNat_iff (c : Nibble) :
    7 ≤ c.toNat ↔ c.getLsbD 3 = true
      ∨ c.getLsbD 3 = false ∧ c.getLsbD 2 = true ∧ c.getLsbD 1 = true ∧ c.getLsbD 0 = true := by
  revert c; decide

/-- A word with SRST 0 and a CMD from 0x7 up is one of the reserved rows, with the IE of the word (R92). -/
theorem decode_mem_reservedRows {d : Word} (hsrst : srstField d = false) (hcmd : 7 ≤ (cmdField d).toNat) :
    decode d ∈ reservedRows (ieField d) := by
  rcases (seven_le_toNat_iff _).mp hcmd with h3 | ⟨h3, h2, h1, h0⟩
  · unfold decode
    rw [hsrst, h3]
    cases (cmdField d).getLsbD 2 <;> cases (cmdField d).getLsbD 1 <;> cases (cmdField d).getLsbD 0 <;>
      simp [reservedRows]
  · unfold decode
    rw [hsrst, h3, h2, h1, h0]
    simp [reservedRows]

/-- All nine reserved rows are issued as one command, whose own part raises ILLEGAL_COMMAND (R92, R226). -/
theorem exec_of_mem_reservedRows {i : Instr} {ie : Bool} (hi : i ∈ reservedRows ie) (s : State) :
    exec i s = .next (s.issue ie illegalBody) := by
  simp only [reservedRows, List.mem_cons, List.not_mem_nil, or_false] at hi
  rcases hi with rfl | rfl | rfl | rfl | rfl | rfl | rfl | rfl | rfl <;> rfl

/-- In IDLE a reserved row is accepted, which clears DONE and EOS, and fails at once (R202, R225, R226). -/
theorem exec_reserved_idle {s : State} {i : Instr} {ie : Bool} (hi : i ∈ reservedRows ie) (hidle : s.h.fsm = .idle) :
    exec i s = .next { s with
      regs.ie := ie, regs.eos := false, regs.done := false, regs.err := .illegalCommand, h.fsm := .error } := by
  rw [exec_of_mem_reservedRows hi, issue_idle hidle]
  rfl

/-- Outside IDLE a reserved row is dropped, as every command is (R92, R201). -/
theorem exec_reserved_dropped {s : State} {i : Instr} {ie : Bool} (hi : i ∈ reservedRows ie)
    (hidle : s.h.fsm ≠ .idle) : exec i s = .next { s with regs.ie := ie, regs.cmdDrop := true } := by
  rw [exec_of_mem_reservedRows hi, issue_dropped hidle]
  rfl

/-- Settles O12: the nine rows share one effect, so acceptance and drop are the two cases of issuing a command. -/
theorem reservedCodesRaiseIllegalCommand : Obligations.ReservedCodesRaiseIllegalCommand :=
  ⟨fun _ hsrst hcmd => decode_mem_reservedRows hsrst hcmd,
    fun _ _ _ hi => ⟨exec_reserved_idle hi, exec_reserved_dropped hi⟩⟩

end Sys2Proof.Machine
end

