-- ==== Sys2Proof/Proofs/EndToken.lean ====
section
/-! `End` at the head of BIN in the decode phases that have no clean end, DEC_HDR and DEC_PIX
(spec/40_header_marshaller.md R125, spec/41_sub_image_framer.md R153, spec/60_exceptions.md R222, R225). -/

namespace Sys2Proof.Machine

/-- On `End` at the head of BIN a phase that needs a token takes its `End` step, the token popped (R64, R207). -/
theorem onToken_end {s : State} {rest : List Token} (hbin : s.io.bin = .endOfStream :: rest)
    (onByte : Byte → State → Host.Outcome State Fault Refusal) (onEnd : State → Host.Outcome State Fault Refusal) :
    onToken s onByte onEnd = some (onEnd { s with io.bin := rest }) := by
  have hpop : s.binPop = some (.endOfStream, { s with io.bin := rest }) := binPop_eq_some.2 ⟨rest, hbin, rfl⟩
  simp [onToken, hpop]

/-- In DEC_HDR the BLOCK step is the header decoder's, on the next token (R207). -/
theorem blockStep_decHdr {s : State} (hfsm : s.h.fsm = .decHdr) :
    blockStep s = onToken s stepDecHdrByte stepDecHdrEnd := by
  simp [blockStep, hfsm]

/-- In DEC_PIX the BLOCK step is the payload decoder's, on the next token (R207). -/
theorem blockStep_decPix {s : State} (hfsm : s.h.fsm = .decPix) :
    blockStep s = onToken s stepDecPixByte stepDecPixEnd := by
  simp [blockStep, hfsm]

/-- Settles O23: in either phase the step is the phase's `End` step on the popped state, which only raises the error. -/
theorem endTokenTruncates : Obligations.EndTokenTruncates := by
  rintro s rest (hhdr | hpix) hbin
  · rw [blockStep_decHdr hhdr, onToken_end hbin]
    rfl
  · rw [blockStep_decPix hpix, onToken_end hbin]
    rfl

end Sys2Proof.Machine
end

