-- ==== Sys2Proof/Proofs/GeometryEnd.lean ====
section
/-! `End` at the head of BIN in DEC_GEOM, the one decode phase that has a clean end besides truncation
(spec/41_sub_image_framer.md R149, spec/60_exceptions.md R222). -/

namespace Sys2Proof.Machine

/-- In DEC_GEOM the BLOCK step is the geometry decoder's, on the next token (R207). -/
theorem blockStep_decGeom {s : State} (hfsm : s.h.fsm = .decGeom) :
    blockStep s = onToken s stepDecGeomByte stepDecGeomEnd := by
  simp [blockStep, hfsm]

/-- After 0 or 1 descriptor bytes `End` is the clean end of the stream: EOS, and the command completes (R149). -/
theorem stepDecGeomEnd_clean {s : State} (hidx : s.h.idx.toNat < 2) :
    stepDecGeomEnd s = .next { s with regs.eos := true }.finish :=
  if_pos hidx

/-- After 2 or more descriptor bytes `End` cuts the record short (R149, R222). -/
theorem stepDecGeomEnd_truncated {s : State} (hidx : 2 ≤ s.h.idx.toNat) :
    stepDecGeomEnd s = .next (s.raiseError .truncatedStream) :=
  if_neg (Nat.not_lt.mpr hidx)

/-- Settles O21: the step is DEC_GEOM's `End` step on the popped state, and h.idx, which the pop leaves alone, chooses
between its two outcomes. -/
theorem decGeomEndStep : Obligations.DecGeomEndStep := by
  intro s rest hfsm hbin
  rw [blockStep_decGeom hfsm, onToken_end hbin]
  exact ⟨fun hclean => congrArg some (stepDecGeomEnd_clean (s := { s with io.bin := rest }) hclean),
    fun htrunc => congrArg some (stepDecGeomEnd_truncated (s := { s with io.bin := rest }) htrunc)⟩

end Sys2Proof.Machine
end

