-- ==== Sys2Proof/Proofs/ScanWindow.lean ====
section
/-! The decode window as exact numbers, and the payload length of an empty window
(spec/41_sub_image_framer.md R150, R151). -/

namespace Sys2Proof.Machine

/-! ### The window's bounds -/

/-- The scan starts at the record's column in either mode (R150). -/
@[simp] theorem scanWindow_xs_toNat (m : ExtentMode) (x0 y0 w ht : Half) :
    (scanWindow m x0 y0 w ht).xs.toNat = x0.toNat := by
  cases m <;> exact BitVec.toNat_setWidth_of_le (by decide)

/-- The scan starts at the record's row in either mode (R150). -/
@[simp] theorem scanWindow_ys_toNat (m : ExtentMode) (x0 y0 w ht : Half) :
    (scanWindow m x0 y0 w ht).ys.toNat = y0.toNat := by
  cases m <;> exact BitVec.toNat_setWidth_of_le (by decide)

/-- Two 16-bit fields never wrap when they are added in the 17 bits of a coordinate (R11). -/
theorem toNat_setWidth_add_setWidth (a b : Half) :
    (a.setWidth 17 + b.setWidth 17).toNat = a.toNat + b.toNat := by
  bv_omega

/-- The column where the scan ends: measured from the origin under SIZE, and from 0 under ABSOLUTE (R150). -/
theorem scanWindow_xe_toNat (m : ExtentMode) (x0 y0 w ht : Half) :
    (scanWindow m x0 y0 w ht).xe.toNat = if m = .size then x0.toNat + w.toNat else w.toNat := by
  cases m with
  | size => exact toNat_setWidth_add_setWidth x0 w
  | absolute => exact BitVec.toNat_setWidth_of_le (by decide)

/-- The row where the scan ends: measured from the origin under SIZE, and from 0 under ABSOLUTE (R150). -/
theorem scanWindow_ye_toNat (m : ExtentMode) (x0 y0 w ht : Half) :
    (scanWindow m x0 y0 w ht).ye.toNat = if m = .size then y0.toNat + ht.toNat else ht.toNat := by
  cases m with
  | size => exact toNat_setWidth_add_setWidth y0 ht
  | absolute => exact BitVec.toNat_setWidth_of_le (by decide)

/-- A record at the origin has one window, whatever the mode (R150). -/
theorem scanWindow_origin (m : ExtentMode) (w ht : Half) : scanWindow m 0 0 w ht = scanWindow .size 0 0 w ht := by
  cases m <;> simp [scanWindow]

/-! ### The payload length -/

/-- `bytes_per_row` without its case split: the truncated difference is 0 when the window has no column (R151). -/
theorem bytesPerRow_eq (v : Window) : bytesPerRow v = (v.xe.toNat - v.xs.toNat + 1) / 2 := by
  unfold bytesPerRow ceilHalf
  split
  · rfl
  · bv_omega

/-- `rows` without its case split: the truncated difference is 0 when the window has no row (R151). -/
theorem windowRows_eq (v : Window) : windowRows v = v.ye.toNat - v.ys.toNat := by
  unfold windowRows
  split
  · rfl
  · bv_omega

/-- No byte belongs to a window that has no column or no row (R150, R151). -/
theorem payLenOf_eq_zero_of_empty {v : Window} (h : v.xe.toNat ≤ v.xs.toNat ∨ v.ye.toNat ≤ v.ys.toNat) :
    payLenOf v = 0 := by
  have hprod : bytesPerRow v * windowRows v = 0 := by
    rw [bytesPerRow_eq, windowRows_eq]
    rcases h with hx | hy
    · simp [Nat.sub_eq_zero_of_le hx]
    · simp [Nat.sub_eq_zero_of_le hy]
  simp [payLenOf, hprod]

/-- Under ABSOLUTE a record whose exclusive bound does not pass its origin, in x or in y, has no payload (R150). -/
theorem payLenOf_scanWindow_absolute_eq_zero {x0 y0 w ht : Half} (h : w ≤ x0 ∨ ht ≤ y0) :
    payLenOf (scanWindow .absolute x0 y0 w ht) = 0 := by
  apply payLenOf_eq_zero_of_empty
  simpa [scanWindow_xe_toNat, scanWindow_ye_toNat, BitVec.le_def] using h

/-- Settles O25: the bounds, the window at the origin and the empty ABSOLUTE window, each a lemma above. -/
theorem windowOfEachExtentMode : Obligations.WindowOfEachExtentMode := by
  rintro x0 y0 w ht m v rfl
  refine ⟨?origin, ?empty, scanWindow_xs_toNat .., scanWindow_ys_toNat .., scanWindow_xe_toNat ..,
    scanWindow_ye_toNat ..⟩
  case origin =>
    rintro rfl rfl
    exact scanWindow_origin m w ht
  case empty =>
    rintro rfl h
    exact payLenOf_scanWindow_absolute_eq_zero h

end Sys2Proof.Machine
end

