-- ==== Sys2Proof/Proofs/PackUnpack.lean ====
section
/-! PACK and UNPACK: the words that decode to them, and their one effect in IDLE, where acceptance and completion are
a single step (spec/42_nibble_packer.md R185, R186, spec/43_control.md R202). -/

namespace Sys2Proof.Machine

/-! ### The words -/

/-- A word with SRST 0 and CMD 0x1 is PACK, whatever its ignored bits hold (R90, R91). -/
theorem decode_eq_pack {d : Word} (hsrst : srstField d = false) (hcmd : cmdField d = 0x1#4) :
    decode d = .pack (ieField d) := by
  rw [decode, hsrst, hcmd]
  rfl

/-- A word with SRST 0 and CMD 0x2 is UNPACK, whatever its ignored bits hold (R90, R91). -/
theorem decode_eq_unpack {d : Word} (hsrst : srstField d = false) (hcmd : cmdField d = 0x2#4) :
    decode d = .unpack (ieField d) := by
  rw [decode, hsrst, hcmd]
  rfl

/-! ### Completing at once -/

/-- A command that completes in the step that accepts it never leaves IDLE, so `finish()` only sets DONE (R206). -/
theorem finish_of_idle {s : State} (hidle : s.h.fsm = .idle) : s.finish = { s with regs.done := true } := by
  rw [State.finish, ← hidle]

/-- Loading DP_RESULT and finishing, right after acceptance in IDLE, leaves DONE 1 and EOS 0, the IE of the word, and
all else as it was (R202, R205, R206). -/
theorem finish_dpResult_of_accepted {s : State} (hidle : s.h.fsm = .idle) (ie : Bool) (v : Word) :
    { (s.setIe ie).clearEnded with regs.dpResult := v }.finish = { s with
      regs.ie := ie, regs.eos := false, regs.done := true, regs.dpResult := v } :=
  finish_of_idle (s := { (s.setIe ie).clearEnded with regs.dpResult := v }) hidle

/-- PACK in IDLE: the high nibbles of PO and PE, in this order, are the packed byte (R182, R185). -/
theorem exec_pack_idle {s : State} (hidle : s.h.fsm = .idle) (ie : Bool) :
    exec (.pack ie) s = .next { s with
      regs.ie := ie, regs.eos := false, regs.done := true
      regs.dpResult := (s.regs.po.extractLsb' 4 4 ++ s.regs.pe.extractLsb' 4 4).setWidth 32 } := by
  have hpack : s.regs.po.extractLsb' 4 4 ++ s.regs.pe.extractLsb' 4 4 = pack s.regs.pe s.regs.po :=
    quant_append_quant s.regs.pe s.regs.po
  calc exec (.pack ie) s
      _ = .next (packBody (s.setIe ie).clearEnded) := congrArg _ (issue_idle hidle ie packBody)
      _ = _ := by rw [hpack]; exact congrArg _ (finish_dpResult_of_accepted hidle ie _)

/-- UNPACK in IDLE: the right pixel stands in the high byte of the result, the left one in the low byte (R183, R186). -/
theorem exec_unpack_idle {s : State} (hidle : s.h.fsm = .idle) (ie : Bool) :
    exec (.unpack ie) s = .next { s with
      regs.ie := ie, regs.eos := false, regs.done := true
      regs.dpResult :=
        (s.regs.pe.extractLsb' 4 4 ++ 0#4 ++ s.regs.pe.extractLsb' 0 4 ++ 0#4 : BitVec 16).setWidth 32 } := by
  have hunpack : (s.regs.pe.extractLsb' 4 4 ++ 0#4 ++ s.regs.pe.extractLsb' 0 4 ++ 0#4 : BitVec 16)
      = unpackRight s.regs.pe ++ unpackLeft s.regs.pe := by
    rw [unpackRight_eq, unpackLeft_eq, BitVec.append_assoc]
    rfl
  calc exec (.unpack ie) s
      _ = .next (unpackBody (s.setIe ie).clearEnded) := congrArg _ (issue_idle hidle ie unpackBody)
      _ = _ := by rw [hunpack]; exact congrArg _ (finish_dpResult_of_accepted hidle ie _)

/-! ### The obligations -/

/-- Settles O7: the word's fields choose PACK, and in IDLE its acceptance is its whole effect. -/
theorem packInIdle : Obligations.PackInIdle :=
  ⟨fun _ hsrst hcmd => decode_eq_pack hsrst hcmd, fun _ ie hidle => exec_pack_idle hidle ie⟩

/-- Settles O8: the word's fields choose UNPACK, and in IDLE its acceptance is its whole effect. -/
theorem unpackInIdle : Obligations.UnpackInIdle :=
  ⟨fun _ hsrst hcmd => decode_eq_unpack hsrst hcmd, fun _ ie hidle => exec_unpack_idle hidle ie⟩

end Sys2Proof.Machine
end


section
/-! NOP: the words that decode to it, and its one effect, the same in every phase (spec/43_control.md R204, R205). -/

namespace Sys2Proof.Machine

/-- A word with SRST 0 and CMD 0x0 is NOP, whatever its ignored bits hold (R90, R91). -/
theorem decode_eq_nop {d : Word} (hsrst : srstField d = false) (hcmd : cmdField d = 0x0#4) :
    decode d = .nop (ieField d) := by
  rw [decode, hsrst, hcmd]
  rfl

/-- NOP is the one command but SRST that is not issued: it is neither accepted nor dropped, so `h.fsm` is not looked at
and only IE is written (R204, R205). -/
theorem exec_nop (ie : Bool) (s : State) : exec (.nop ie) s = .next (s.setIe ie) := rfl

/-- Settles O6: the word's fields choose NOP, whose whole effect is the write of IE that `setIe` is. -/
theorem nopWritesOnlyIe : Obligations.NopWritesOnlyIe :=
  ⟨fun _ hsrst hcmd => decode_eq_nop hsrst hcmd, fun s ie => exec_nop ie s⟩

end Sys2Proof.Machine
end


section
/-! ENC_RECORD's rejected images: which check fails first, and the one state either failure leaves
(spec/41_sub_image_framer.md R142, spec/60_exceptions.md R223 to R225, R229). -/

namespace Sys2Proof.Machine

/-! ### The two checks -/

/-- The size check comes first and does not look at the parity of W (R142, R229). -/
theorem encRecordBody_too_large {s : State} (hsize : s.regs.w.toNat > 960 ∨ s.regs.ht.toNat > 540) :
    encRecordBody s = s.raiseError .dimensionTooLarge :=
  if_pos hsize

/-- Bit 0 of W, which the model tests, says that W is odd. -/
theorem getLsbD_zero_iff_odd (w : Half) : w.getLsbD 0 = true ↔ w.toNat % 2 = 1 := by
  rw [← BitVec.testBit_toNat, Nat.testBit_zero, decide_eq_true_iff]

/-- An odd W is reported only when the size check has passed (R142, R229). -/
theorem encRecordBody_odd {s : State} (hw : s.regs.w.toNat ≤ 960) (hht : s.regs.ht.toNat ≤ 540)
    (hodd : s.regs.w.toNat % 2 = 1) : encRecordBody s = s.raiseError .invalidGeometry := by
  have hsize : ¬ (s.regs.w.toNat > Config.maxW ∨ s.regs.ht.toNat > Config.maxH) :=
    not_or.mpr ⟨Nat.not_lt.mpr hw, Nat.not_lt.mpr hht⟩
  have hbit : s.regs.w.getLsbD 0 = true := (getLsbD_zero_iff_odd _).mpr hodd
  rw [encRecordBody, if_neg hsize, if_pos hbit]

/-! ### A command that fails at acceptance -/

/-- ENC_RECORD in IDLE that fails a check: acceptance has written IE and cleared DONE and EOS, and the error is all that
is added, so BOUT and PAY_LEN stay as they were (R202, R225). -/
theorem exec_encRecord_raises {s : State} {ie : Bool} {code : ErrCode} (hidle : s.h.fsm = .idle)
    (hraise : encRecordBody (s.setIe ie).clearEnded = (s.setIe ie).clearEnded.raiseError code) :
    exec (.encRecord ie) s = .next { s with
      regs.ie := ie, regs.eos := false, regs.done := false, regs.err := code, h.fsm := .error } :=
  congrArg _ ((issue_idle hidle ie encRecordBody).trans hraise)

/-- Settles O11: acceptance leaves W and H alone, so the checks see the sizes of the state before it. -/
theorem encRecordRejected : Obligations.EncRecordRejected :=
  fun _ _ hidle =>
    ⟨fun hsize => exec_encRecord_raises hidle (encRecordBody_too_large hsize),
      fun hw hht hodd => exec_encRecord_raises hidle (encRecordBody_odd hw hht hodd)⟩

end Sys2Proof.Machine
end


section
/-! The interrupt output against what the HOST reads: the fields of CTRL and STATUS that R235 names, each where the
register map puts it (R23, R24, spec/60_exceptions.md R220, R235). -/

namespace Sys2Proof.Machine

/-! ### The fields as they are read -/

/-- CTRL bit 8 is IE (R23). -/
theorem regRead_ctrl_ie (s : State) : (s.regRead 0x00).getLsbD 8 = s.regs.ie := by
  change s.ctrlWord.getLsbD 8 = s.regs.ie
  simp [State.ctrlWord]

/-- Where each field of the STATUS word stands, from bit 0 up (R24). -/
theorem getLsbD_statusWord (s : State) (i : Nat) :
    s.statusWord.getLsbD i =
      if i < 3 then s.h.fsm.code.getLsbD i
      else if i < 4 then s.busy
      else if i < 7 then s.regs.err.code.getLsbD (i - 4)
      else if i < 8 then s.regs.eos
      else if i < 9 then s.regs.done
      else if i < 10 then s.regs.cmdDrop
      else false := by
  simp only [State.statusWord, BitVec.getLsbD_append, BitVec.getLsbD_zero, BitVec.getLsbD_ofBool]
  grind

/-- STATUS bit 8 is DONE (R24). -/
theorem regRead_status_done (s : State) : (s.regRead 0x04).getLsbD 8 = s.regs.done :=
  getLsbD_statusWord s 8

/-- STATUS bit 7 is EOS (R24). -/
theorem regRead_status_eos (s : State) : (s.regRead 0x04).getLsbD 7 = s.regs.eos :=
  getLsbD_statusWord s 7

/-- STATUS bits 6 to 4 are the code of ERR (R24). -/
theorem regRead_status_err (s : State) : (s.regRead 0x04).extractLsb' 4 3 = s.regs.err.code := by
  apply BitVec.eq_of_getLsbD_eq
  intro i hi
  have hstatus : s.regRead 0x04 = s.statusWord := rfl
  rw [hstatus, BitVec.getLsbD_extractLsb', getLsbD_statusWord]
  interval_cases i <;> rfl

/-- Of all the codes only that of no error is 0 (R220). -/
theorem code_ne_zero_iff (e : ErrCode) : e.code ≠ 0 ↔ e ≠ .none := by
  cases e <;> decide

/-! ### The level -/

/-- R235 as a proposition about the flags themselves. -/
theorem irq_iff (s : State) :
    s.irq = true ↔ s.regs.ie = true ∧ (s.regs.done = true ∨ s.regs.eos = true ∨ s.regs.err ≠ .none) := by
  simp [State.irq, or_assoc]

/-- Settles O52: each field the HOST reads is its flag, and ERR reads 0 exactly when there is no error. -/
theorem interruptIsALevelOfTheFlags : Obligations.InterruptIsALevelOfTheFlags := by
  intro s
  rw [regRead_ctrl_ie, regRead_status_done, regRead_status_eos, regRead_status_err, code_ne_zero_iff]
  exact irq_iff s

end Sys2Proof.Machine
end


section
/-! The register writes that change nothing: to a data register while BUSY, and to a register that cannot be written at
any time (spec/20_memory.md R62, spec/70_reset_and_hazards.md R261). -/

namespace Sys2Proof.Machine

/-! ### What the address selects -/

/-- STATUS stands below the offset 0x08 (R22, R61). -/
theorem regAt_ne_status {a : Addr} (ha : 0x08 ≤ (a &&& 0x3C#6).toNat) : regAt a ≠ .status := by
  revert a; decide

/-- From the offset 0x20 up stand the registers the HOST cannot write (R22, R36 to R38). -/
theorem regAt_of_readOnlyOffset {a : Addr} (ha : 0x20 ≤ (a &&& 0x3C#6).toNat) :
    regAt a = .dpResult ∨ regAt a = .payLen ∨ regAt a = .reserved := by
  revert a; decide

/-! ### The write -/

/-- A write of a register other than STATUS does nothing while BUSY (R62, R261). -/
theorem writeOther_busy {s : State} {n : Reg} (hbusy : s.busy = true) (hn : n ≠ .status) (d : Word) :
    s.writeOther n d = s := by
  rcases writeOther_cases s n d with hsame | ⟨hstatus, -, -⟩ | ⟨hready, -⟩
  · exact hsame
  · exact absurd hstatus hn
  · exact absurd hbusy (Bool.eq_false_iff.mp hready)

/-- A write of DP_RESULT, PAY_LEN or a reserved offset does nothing in any phase (R38, R62). -/
theorem writeOther_readOnly {n : Reg} (hn : n = .dpResult ∨ n = .payLen ∨ n = .reserved) (s : State) (d : Word) :
    s.writeOther n d = s := by
  rcases hn with rfl | rfl | rfl <;> rfl

/-! ### The turn -/

/-- A register write that is next on the agenda is the step, whose effect begins with its turn used up (R60, R73). -/
theorem step_regWrite {s : State} {a : Addr} {d : Word} {rest : List Turn}
    (hturn : s.host.agenda = .host (.regWrite a d) :: rest) : step s = regWrite a d (s.withAgenda rest) := by
  rw [step, takeTurn, hturn]
  rfl

/-- A write past CTRL and STATUS is no command word, so it is a write of the register it selects (R61, R62). -/
theorem step_regWrite_dataOffset {s : State} {a : Addr} {d : Word} {rest : List Turn}
    (hturn : s.host.agenda = .host (.regWrite a d) :: rest) (ha : 0x08 ≤ (a &&& 0x3C#6).toNat) :
    step s = .next ((s.withAgenda rest).writeOther (regAt a) d) := by
  rw [step_regWrite hturn]
  rcases regWrite_cases a d (s.withAgenda rest) with ⟨hctrl, -⟩ | ⟨-, hwrite⟩
  · rw [(regSelect_eq_zero a).mp hctrl] at ha
    exact absurd ha (by decide)
  · exact hwrite

/-- Settles O47: either way the write leaves the state that the turn alone makes; BUSY, which the agenda does not touch,
or the register selected is the reason. -/
theorem ignoredRegisterWrites : Obligations.IgnoredRegisterWrites := by
  rintro s a d rest hturn (⟨hbusy, hdata⟩ | hreadOnly)
  · rw [step_regWrite_dataOffset hturn hdata]
    exact congrArg _ (writeOther_busy (s := s.withAgenda rest) hbusy (regAt_ne_status hdata) d)
  · rw [step_regWrite_dataOffset hturn (Nat.le_trans (by decide) hreadOnly)]
    exact congrArg _ (writeOther_readOnly (regAt_of_readOnlyOffset hreadOnly) (s.withAgenda rest) d)

end Sys2Proof.Machine
end


section
/-! Decoding and encoding as inverses: a word with SRST 0 decodes by its CMD and IE fields alone, and each instruction but
SRST is the meaning of one canonical word (spec/30_encoding.md R90 to R93, spec/opcode_table.json). -/

namespace Sys2Proof.Machine

/-! ### The fields of a command word -/

/-- A command word has SRST 0 and its own CMD and IE (R90). -/
theorem fields_commandWord (c : Nibble) (ie : Bool) :
    srstField (commandWord c ie) = false ∧ cmdField (commandWord c ie) = c ∧ ieField (commandWord c ie) = ie := by
  revert c ie; decide

/-- SRST is the word's top bit (R90). -/
@[simp] theorem srstField_eq_getElem (w : Word) : srstField w = w[31] := rfl

/-- Where the fields of a command word stand, bit by bit (R90). -/
theorem getLsbD_commandWord (c : Nibble) (ie : Bool) (i : Nat) :
    (commandWord c ie).getLsbD i = if i < 4 then c.getLsbD i else decide (i = 8) && ie := by
  simp only [commandWord, BitVec.getLsbD_append, BitVec.getLsbD_zero, BitVec.getLsbD_ofBool]
  split_ifs <;> grind

/-- With SRST 0 the decoder looks at CMD and IE only (R91, R93). -/
theorem decode_eq_of_srst_clear {w : Word} (hsrst : srstField w = false) :
    decode w = decode (commandWord (cmdField w) (ieField w)) := by
  obtain ⟨hs, hc, hi⟩ := fields_commandWord (cmdField w) (ieField w)
  simp only [decode, hsrst, hs, hc, hi]

/-- With SRST 1 the decoder looks at nothing else (R93). -/
theorem decode_eq_srst {w : Word} (hsrst : srstField w = true) : decode w = .srst := by
  rw [decode, hsrst]
  rfl

/-- Encoding undoes decoding on the sixteen CMD values at both values of IE (R91). -/
theorem encode_decode_commandWord (c : Nibble) (ie : Bool) :
    encode (decode (commandWord c ie)) = commandWord c ie := by
  revert c ie; decide

/-- No command word is SRST: that row alone has bit 31 at 1 (R91, R93). -/
theorem decode_commandWord_ne_srst (c : Nibble) (ie : Bool) : decode (commandWord c ie) ≠ .srst := by
  revert c ie; decide

/-- Each instruction but SRST has one CMD: the word of that CMD decodes to it and is its encoding, and its row's mask and
match say SRST 0 and this CMD (R91, spec/opcode_table.json). -/
theorem exists_cmd_of_ne_srst {i : Instr} (hi : i ≠ .srst) :
    ∃ c ie, decode (commandWord c ie) = i ∧ encode i = commandWord c ie
      ∧ tableMask i = 0x8000000F#32 ∧ tableMatch i = c.setWidth 32 := by
  cases i with
  | srst => exact absurd rfl hi
  | nop ie => exact ⟨0x0, ie, by revert ie; decide, rfl, rfl, rfl⟩
  | pack ie => exact ⟨0x1, ie, by revert ie; decide, rfl, rfl, rfl⟩
  | unpack ie => exact ⟨0x2, ie, by revert ie; decide, rfl, rfl, rfl⟩
  | encHeader ie => exact ⟨0x3, ie, by revert ie; decide, rfl, rfl, rfl⟩
  | encRecord ie => exact ⟨0x4, ie, by revert ie; decide, rfl, rfl, rfl⟩
  | decHeader ie => exact ⟨0x5, ie, by revert ie; decide, rfl, rfl, rfl⟩
  | decRecord ie => exact ⟨0x6, ie, by revert ie; decide, rfl, rfl, rfl⟩
  | reserved7 ie => exact ⟨0x7, ie, by revert ie; decide, rfl, rfl, rfl⟩
  | reserved8 ie => exact ⟨0x8, ie, by revert ie; decide, rfl, rfl, rfl⟩
  | reserved9 ie => exact ⟨0x9, ie, by revert ie; decide, rfl, rfl, rfl⟩
  | reservedA ie => exact ⟨0xA, ie, by revert ie; decide, rfl, rfl, rfl⟩
  | reservedB ie => exact ⟨0xB, ie, by revert ie; decide, rfl, rfl, rfl⟩
  | reservedC ie => exact ⟨0xC, ie, by revert ie; decide, rfl, rfl, rfl⟩
  | reservedD ie => exact ⟨0xD, ie, by revert ie; decide, rfl, rfl, rfl⟩
  | reservedE ie => exact ⟨0xE, ie, by revert ie; decide, rfl, rfl, rfl⟩
  | reservedF ie => exact ⟨0xF, ie, by revert ie; decide, rfl, rfl, rfl⟩

/-! ### Canonical words -/

/-- A command word has 0 in every bit the block ignores (R93). -/
theorem canonicalWord_commandWord (c : Nibble) (ie : Bool) : canonicalWord (commandWord c ie) = true := by
  revert c ie; decide

/-- A canonical word with SRST 0 is the command word of its own fields: there is no other bit left (R90, R93). -/
theorem eq_commandWord_of_canonical {w : Word} (hcanon : canonicalWord w = true) (hsrst : srstField w = false) :
    w = commandWord (cmdField w) (ieField w) := by
  simp only [canonicalWord, lowReservedClear, highReservedClear, Bool.and_eq_true, beq_iff_eq] at hcanon
  obtain ⟨⟨hlow, hhigh⟩, -⟩ := hcanon
  have hlowBit (i : Nat) : i < 4 → w.getLsbD (4 + i) = false := by
    intro hi
    simpa [hi] using congrArg (fun v : BitVec 4 => v.getLsbD i) hlow
  have hhighBit (i : Nat) : i < 22 → w.getLsbD (9 + i) = false := by
    intro hi
    simpa [hi] using congrArg (fun v : BitVec 22 => v.getLsbD i) hhigh
  apply BitVec.eq_of_getLsbD_eq
  intro i hi
  rw [getLsbD_commandWord]
  by_cases h4 : i < 4
  · simp [h4, cmdField]
  · obtain rfl | h8 | h9 | h31 : i = 8 ∨ i - 4 < 4 ∨ (9 ≤ i ∧ i - 9 < 22) ∨ i = 31 := by omega
    · simp [ieField]
    · simpa [h4, show i ≠ 8 by omega, show 4 + (i - 4) = i by omega] using hlowBit (i - 4) h8
    · simpa [h4, show i ≠ 8 by omega, show 9 + (i - 9) = i by omega] using hhighBit (i - 9) h9.2
    · simpa [h31] using hsrst

/-- A canonical word with SRST 1 holds nothing else (R93). -/
theorem eq_srst_of_canonical {w : Word} (hcanon : canonicalWord w = true) (hsrst : srstField w = true) :
    w = 0x80000000#32 := by
  have hbit : w.getLsbD 31 = true := hsrst
  simp only [canonicalWord, srstAlone, hbit, Bool.and_eq_true] at hcanon
  simpa using hcanon.2

/-- Settles O1: an instruction is SRST or the meaning of its command word, and a canonical word is SRST's or the command
word of its fields. -/
theorem decodeEncodeAgree : Obligations.DecodeEncodeAgree := by
  constructor
  · intro i _
    by_cases hi : i = .srst
    · subst hi
      decide
    · obtain ⟨c, ie, hdec, henc, -⟩ := exists_cmd_of_ne_srst hi
      rw [henc]
      exact ⟨hdec, canonicalWord_commandWord c ie⟩
  · intro w hcanon
    cases hsrst : srstField w with
    | false => rw [eq_commandWord_of_canonical hcanon hsrst, encode_decode_commandWord]
    | true => rw [decode_eq_srst hsrst, eq_srst_of_canonical hcanon hsrst]; rfl

/-! ### The rows of the opcode table -/

/-- Under the mask of every row but SRST's, a word has a row's match exactly when it has SRST 0 and that row's CMD. -/
theorem and_mask_eq_iff (w : Word) (c : Nibble) :
    w &&& 0x8000000F#32 = c.setWidth 32 ↔ srstField w = false ∧ cmdField w = c := by
  have hmask (i : Nat) : (0x8000000F#32).getLsbD i = (decide (i < 4) || decide (i = 31)) := by
    by_cases h : i < 32
    · interval_cases i <;> rfl
    · rw [BitVec.getLsbD_of_ge _ _ (by omega)]
      simp; omega
  constructor
  · intro h
    have hbit (i : Nat) := congrArg (fun v : Word => v.getLsbD i) h
    simp only [BitVec.getLsbD_and, BitVec.getLsbD_setWidth, hmask] at hbit
    refine ⟨by simpa using hbit 31, BitVec.eq_of_getLsbD_eq fun i hi => ?_⟩
    simpa [cmdField, hi, show i < 32 by omega] using hbit i
  · rintro ⟨hsrst, rfl⟩
    apply BitVec.eq_of_getLsbD_eq
    intro i hi
    simp only [BitVec.getLsbD_and, BitVec.getLsbD_setWidth, hmask, cmdField, BitVec.getLsbD_extractLsb']
    by_cases h31 : i = 31
    · simpa [h31] using hsrst
    · simp [h31, hi, Bool.and_comm]

/-- Under SRST's mask a word has SRST's match exactly when bit 31 is 1 (R93). -/
theorem and_srstMask_eq_iff (w : Word) : w &&& 0x80000000#32 = 0x80000000#32 ↔ srstField w = true := by
  have htop : 0x80000000#32 = BitVec.twoPow 32 31 := by decide
  rw [htop, BitVec.and_twoPow]
  cases hbit : w.getLsbD 31 with
  | false => simpa [← htop] using hbit
  | true => simpa using hbit

/-- A word decodes to the instruction of a CMD and an IE exactly when it has SRST 0, this CMD and this IE (R91). -/
theorem decode_eq_commandWord_iff (w : Word) (c : Nibble) (ie : Bool) :
    decode w = decode (commandWord c ie) ↔ srstField w = false ∧ cmdField w = c ∧ ieField w = ie := by
  constructor
  · intro h
    cases hsrst : srstField w with
    | true => exact absurd (h.symm.trans (decode_eq_srst hsrst)) (decode_commandWord_ne_srst c ie)
    | false =>
      have hword : commandWord (cmdField w) (ieField w) = commandWord c ie := by
        rw [← encode_decode_commandWord, ← decode_eq_of_srst_clear hsrst, h, encode_decode_commandWord]
      obtain ⟨-, hc, hi⟩ := fields_commandWord (cmdField w) (ieField w)
      obtain ⟨-, hc', hi'⟩ := fields_commandWord c ie
      exact ⟨rfl, by rw [← hc, hword, hc'], by rw [← hi, hword, hi']⟩
  · rintro ⟨hsrst, rfl, rfl⟩
    exact decode_eq_of_srst_clear hsrst

/-- A word is SRST exactly when bit 31 is 1 (R93). -/
theorem decode_eq_srst_iff (w : Word) : decode w = .srst ↔ srstField w = true := by
  constructor
  · intro h
    by_contra hsrst
    rw [decode_eq_of_srst_clear (Bool.eq_false_iff.mpr hsrst)] at h
    exact decode_commandWord_ne_srst _ _ h
  · exact decode_eq_srst

/-- Settles O2: both sides say which SRST, CMD and IE the word has. -/
theorem decodeMatchesItsRowOnly : Obligations.DecodeMatchesItsRowOnly := by
  intro w i
  by_cases hi : i = .srst
  · subst hi
    rw [decode_eq_srst_iff]
    simpa [tableMask, tableMatch] using (and_srstMask_eq_iff w).symm
  · obtain ⟨c, ie, rfl, henc, hmask, hmatch⟩ := exists_cmd_of_ne_srst hi
    have hie : (commandWord c ie).getLsbD 8 = ie := (fields_commandWord c ie).2.2
    rw [decode_eq_commandWord_iff, hmask, hmatch, and_mask_eq_iff, henc, hie]
    simp only [hi, false_or, and_assoc, eq_comm (a := ie)]
    rfl

/-! ### Words of the spec -/

/-- Settles O3: the six words are computed, and a write is a command word exactly where it selects CTRL. -/
theorem wordsOfTheSpecDecode : Obligations.WordsOfTheSpecDecode := by
  refine ⟨by decide, by decide, by decide, by decide, by decide, by decide, fun a d => ⟨fun ha => ?_, fun ha => ?_⟩⟩
  · rw [decodeWrite, if_pos ((regSelect_eq_zero a).mpr ha)]
  · rw [decodeWrite, if_neg (mt (regSelect_eq_zero a).mp ha)]

end Sys2Proof.Machine
end


section
/-! The data functions of the units as numbers and as fields: little-endian assembly, the pair of nibbles, and the exact
payload length (spec/30_encoding.md R98, spec/41_sub_image_framer.md R151, spec/42_nibble_packer.md R180 to R183). -/

namespace Sys2Proof.Machine

/-! ### Little-endian assembly -/

/-- `le16` puts its second byte over its first (R98). -/
theorem le16_eq_append (b0 b1 : Byte) : le16 b0 b1 = b1 ++ b0 := by
  apply BitVec.eq_of_getLsbD_eq
  intro i hi
  rw [le16, BitVec.getLsbD_append]
  interval_cases i <;> simp

/-- `le32` puts its bytes over each other, the first one lowest (R98). -/
theorem le32_eq_append (b0 b1 b2 b3 : Byte) : le32 b0 b1 b2 b3 = b3 ++ b2 ++ b1 ++ b0 := by
  apply BitVec.eq_of_getLsbD_eq
  intro i hi
  rw [le32, BitVec.getLsbD_append, BitVec.getLsbD_append, BitVec.getLsbD_append]
  interval_cases i <;> simp

/-! ### Pairs of nibbles -/

/-- The left pixel of a payload byte is the left sample with its low nibble cleared (R96, R183). -/
theorem payloadByte_low (l r : Byte) : (payloadByte l r).extractLsb' 0 4 ++ 0#4 = l &&& 0xF0#8 := by
  rw [payloadByte, BitVec.extractLsb'_append_eq_right]
  exact (unpackRight_eq l).symm

/-- The right pixel of a payload byte is the right sample with its low nibble cleared (R96, R183). -/
theorem payloadByte_high (l r : Byte) : (payloadByte l r).extractLsb' 4 4 ++ 0#4 = r &&& 0xF0#8 := by
  rw [payloadByte, BitVec.extractLsb'_append_eq_left]
  exact (unpackRight_eq r).symm

/-- Settles O27: `pack` is the payload byte of its pair, whose nibbles are those of the two samples. -/
theorem packUnpackLaws : Obligations.PackUnpackLaws := by
  refine ⟨fun p q => ⟨?_, ?_⟩, fun b => ?_⟩
  · rw [unpackLeft_eq, pack_eq, payloadByte_low]
  · rw [unpackRight_eq, pack_eq, payloadByte_high]
  · rw [pack_eq, unpackLeft_eq, unpackRight_eq, payloadByte, BitVec.extractLsb'_append_eq_left,
      BitVec.extractLsb'_append_eq_left]
    exact (BitVec.extractLsb'_append_extractLsb'_eq_extractLsb' (len₁ := 4) (len₂ := 4) rfl).trans
      BitVec.extractLsb'_eq_self

/-! ### The payload length -/

/-- A window is at most 65535 columns wide, and its end is a 17-bit number below the last one (R150). -/
theorem scanWindow_xe_le (m : ExtentMode) (x0 y0 w ht : Half) :
    (scanWindow m x0 y0 w ht).xe.toNat ≤ (scanWindow m x0 y0 w ht).xs.toNat + 65535 := by
  have hw := w.isLt
  rw [scanWindow_xe_toNat, scanWindow_xs_toNat]
  split <;> omega

/-- A window is at most 65535 rows high (R150). -/
theorem scanWindow_ye_le (m : ExtentMode) (x0 y0 w ht : Half) :
    (scanWindow m x0 y0 w ht).ye.toNat ≤ (scanWindow m x0 y0 w ht).ys.toNat + 65535 := by
  have hht := ht.isLt
  rw [scanWindow_ye_toNat, scanWindow_ys_toNat]
  split <;> omega

/-- A record has at most 32768 payload bytes for each of at most 65535 rows (R37, R151). -/
theorem payload_le (m : ExtentMode) (x0 y0 w ht : Half) :
    bytesPerRow (scanWindow m x0 y0 w ht) * windowRows (scanWindow m x0 y0 w ht) ≤ 0x7FFF8000 := by
  have hx := scanWindow_xe_le m x0 y0 w ht
  have hy := scanWindow_ye_le m x0 y0 w ht
  have hrow : bytesPerRow (scanWindow m x0 y0 w ht) ≤ 32768 := by rw [bytesPerRow_eq]; omega
  have hrows : windowRows (scanWindow m x0 y0 w ht) ≤ 65535 := by rw [windowRows_eq]; omega
  exact Nat.mul_le_mul hrow hrows

/-- So PAY_LEN holds the payload length itself (R37, R151). -/
theorem payLenOf_toNat (m : ExtentMode) (x0 y0 w ht : Half) :
    (payLenOf (scanWindow m x0 y0 w ht)).toNat
      = bytesPerRow (scanWindow m x0 y0 w ht) * windowRows (scanWindow m x0 y0 w ht) := by
  have hle := payload_le m x0 y0 w ht
  rw [payLenOf, BitVec.toNat_ofNat, Nat.mod_eq_of_lt (by omega)]

/-- A payload that is not empty has both a byte in its row and a row (R151). -/
theorem window_nonempty_of_payLen {m : ExtentMode} {x0 y0 w ht : Half}
    (hpay : payLenOf (scanWindow m x0 y0 w ht) ≠ 0) :
    0 < bytesPerRow (scanWindow m x0 y0 w ht) ∧ 0 < windowRows (scanWindow m x0 y0 w ht) := by
  refine CanonicallyOrderedAdd.mul_pos.mp (Nat.pos_of_ne_zero fun h0 => hpay ?_)
  rw [payLenOf, h0]
  rfl

/-- Under SIZE a row has half the record's width in bytes, rounded up (R151). -/
theorem bytesPerRow_size (x0 y0 w ht : Half) : bytesPerRow (scanWindow .size x0 y0 w ht) = (w.toNat + 1) / 2 := by
  rw [bytesPerRow_eq, scanWindow_xe_toNat, scanWindow_xs_toNat, if_pos rfl, Nat.add_sub_cancel_left]

/-- Under SIZE a record has as many rows as its height says (R151). -/
theorem windowRows_size (x0 y0 w ht : Half) : windowRows (scanWindow .size x0 y0 w ht) = ht.toNat := by
  rw [windowRows_eq, scanWindow_ye_toNat, scanWindow_ys_toNat, if_pos rfl, Nat.add_sub_cancel_left]

/-- The payload length of a SIZE record (R151). -/
theorem payLenOf_size (x0 y0 w ht : Half) :
    (payLenOf (scanWindow .size x0 y0 w ht)).toNat = (w.toNat + 1) / 2 * ht.toNat := by
  rw [payLenOf_toNat, bytesPerRow_size, windowRows_size]

/-- Settles O26: the length is the exact product, and the SIZE clauses are its value there. -/
theorem payloadLengthIsExact : Obligations.PayloadLengthIsExact := by
  rintro x0 y0 w ht m v rfl
  refine ⟨?exact, ?bound, ?size, ?even, ?largest⟩
  case exact => rw [payLenOf_toNat, bytesPerRow_eq, windowRows_eq]
  case bound => rw [payLenOf_toNat]; exact payload_le m x0 y0 w ht
  case size =>
    rintro rfl
    exact payLenOf_size x0 y0 w ht
  case even =>
    rintro rfl heven
    obtain ⟨n, hn⟩ : ∃ n, w.toNat = 2 * n := ⟨w.toNat / 2, by omega⟩
    rw [payLenOf_size, hn, show (2 * n + 1) / 2 = n by omega, show ht.toNat * (2 * n) = n * ht.toNat * 2 by ring,
      Nat.mul_div_cancel _ (by decide)]
  case largest =>
    rintro rfl rfl rfl
    rw [payLenOf_size]
    rfl

end Sys2Proof.Machine
end


section
/-! Commands at acceptance: which commands are issued, what each does in IDLE when it starts a phase, and the drop outside
IDLE (spec/43_control.md R200 to R205). -/

namespace Sys2Proof.Machine

/-! ### The issued commands -/

/-- `Issued ie i body`: the instruction `i` with the IE bit `ie` is a command, not NOP and not SRST, and `body` is its own
part at acceptance (R200, R202). -/
inductive Issued (ie : Bool) : Instr → (State → State) → Prop
  | pack : Issued ie (.pack ie) packBody
  | unpack : Issued ie (.unpack ie) unpackBody
  | encHeader : Issued ie (.encHeader ie) encHeaderBody
  | encRecord : Issued ie (.encRecord ie) encRecordBody
  | decHeader : Issued ie (.decHeader ie) decHeaderBody
  | decRecord : Issued ie (.decRecord ie) decRecordBody
  | reserved {i : Instr} (hi : i ∈ reservedRows ie) : Issued ie i illegalBody

/-- The meaning of an issued command is issuing its own part (R200 to R202). -/
theorem exec_issued {ie : Bool} {i : Instr} {body : State → State} (hi : Issued ie i body) (s : State) :
    exec i s = .next (s.issue ie body) := by
  cases hi with
  | reserved hi => exact exec_of_mem_reservedRows hi s
  | _ => rfl

/-- The six commands and the nine reserved rows are all that is issued. -/
theorem exists_issued_of_mem {ie : Bool} {i : Instr}
    (hi : i ∈ [Instr.pack ie, .unpack ie, .encHeader ie, .encRecord ie, .decHeader ie, .decRecord ie]
      ++ reservedRows ie) : ∃ body, Issued ie i body := by
  rcases List.mem_append.mp hi with hcmd | hres
  · simp only [List.mem_cons, List.not_mem_nil, or_false] at hcmd
    rcases hcmd with rfl | rfl | rfl | rfl | rfl | rfl
    exacts [⟨_, .pack⟩, ⟨_, .unpack⟩, ⟨_, .encHeader⟩, ⟨_, .encRecord⟩, ⟨_, .decHeader⟩, ⟨_, .decRecord⟩]
  · exact ⟨_, .reserved hres⟩

/-- A word with SRST 0 and a CMD other than 0 is a command with the IE of the word (R91, R92, R200). -/
theorem exists_issued_decode {d : Word} (hsrst : srstField d = false) (hcmd : cmdField d ≠ 0x0#4) :
    ∃ body, Issued (ieField d) (decode d) body := by
  have hcodes : ∀ c : Nibble, c ≠ 0x0#4 → c = 1 ∨ c = 2 ∨ c = 3 ∨ c = 4 ∨ c = 5 ∨ c = 6 ∨ 7 ≤ c.toNat := by decide
  have hdecode (c : Nibble) (hc : cmdField d = c) : decode d = decode (commandWord c (ieField d)) :=
    (decode_eq_commandWord_iff d c (ieField d)).mpr ⟨hsrst, hc, rfl⟩
  have hsix (ie : Bool) : decode (commandWord 1 ie) = .pack ie ∧ decode (commandWord 2 ie) = .unpack ie
      ∧ decode (commandWord 3 ie) = .encHeader ie ∧ decode (commandWord 4 ie) = .encRecord ie
      ∧ decode (commandWord 5 ie) = .decHeader ie ∧ decode (commandWord 6 ie) = .decRecord ie := by
    revert ie; decide
  obtain ⟨h1, h2, h3, h4, h5, h6⟩ := hsix (ieField d)
  rcases hcodes _ hcmd with hc | hc | hc | hc | hc | hc | hc
  · exact ⟨_, by rw [hdecode 1 hc, h1]; exact .pack⟩
  · exact ⟨_, by rw [hdecode 2 hc, h2]; exact .unpack⟩
  · exact ⟨_, by rw [hdecode 3 hc, h3]; exact .encHeader⟩
  · exact ⟨_, by rw [hdecode 4 hc, h4]; exact .encRecord⟩
  · exact ⟨_, by rw [hdecode 5 hc, h5]; exact .decHeader⟩
  · exact ⟨_, by rw [hdecode 6 hc, h6]; exact .decRecord⟩
  · exact ⟨_, .reserved (decode_mem_reservedRows hsrst hc)⟩

/-! ### In IDLE -/

/-- An issued command in IDLE is accepted (R200 to R202). -/
theorem exec_accepted {s : State} {ie : Bool} {i : Instr} {body : State → State} (hi : Issued ie i body)
    (hidle : s.h.fsm = .idle) : exec i s = .next (body (s.setIe ie).clearEnded) := by
  rw [exec_issued hi, issue_idle hidle]

/-- Settles O9: each of the three is accepted, and its own part starts its phase. -/
theorem multiStepCommandsStart : Obligations.MultiStepCommandsStart :=
  fun _ _ hidle => ⟨exec_accepted .encHeader hidle, exec_accepted .decHeader hidle, exec_accepted .decRecord hidle⟩

/-- ENC_RECORD whose image passes both checks starts the record (R142). -/
theorem encRecordBody_legal {s : State} (hw : s.regs.w.toNat ≤ 960) (hht : s.regs.ht.toNat ≤ 540)
    (heven : s.regs.w.toNat % 2 = 0) : encRecordBody s = s.startRecord := by
  have hsize : ¬ (s.regs.w.toNat > Config.maxW ∨ s.regs.ht.toNat > Config.maxH) :=
    not_or.mpr ⟨Nat.not_lt.mpr hw, Nat.not_lt.mpr hht⟩
  have hbit : ¬ s.regs.w.getLsbD 0 = true := fun hbit => by
    have hodd := (getLsbD_zero_iff_odd _).mp hbit
    omega
  rw [encRecordBody, if_neg hsize, if_neg hbit]

/-- The PAY_LEN of a legal image is far below 32 bits (R37, R142). -/
theorem legalImage_payLen_le {w ht : Half} (hw : w.toNat ≤ 960) (hht : ht.toNat ≤ 540) :
    w.toNat / 2 * ht.toNat ≤ 259200 :=
  Nat.mul_le_mul (show w.toNat / 2 ≤ 480 by omega) hht

/-- So PAY_LEN holds the product itself. -/
theorem startRecord_payLen_toNat {s : State} (hw : s.regs.w.toNat ≤ 960) (hht : s.regs.ht.toNat ≤ 540) :
    s.startRecord.regs.payLen.toNat = s.regs.w.toNat / 2 * s.regs.ht.toNat := by
  have hle := legalImage_payLen_le hw hht
  rw [State.startRecord_regs_payLen, BitVec.toNat_ofNat, Nat.mod_eq_of_lt (by omega)]

/-- Settles O10: acceptance leaves W and H alone, so a legal image starts its record with the exact PAY_LEN. -/
theorem encRecordAccepted : Obligations.EncRecordAccepted := by
  intro s ie hidle hw hht heven
  let u := (s.setIe ie).clearEnded
  have hstart : exec (.encRecord ie) s = .next u.startRecord := by
    rw [exec_accepted .encRecord hidle, encRecordBody_legal (s := u) hw hht heven]
  exact ⟨u.startRecord, hstart, startRecord_payLen_toNat (s := u) hw hht, rfl⟩

/-! ### Outside IDLE -/

/-- Settles O13: whatever is issued outside IDLE is dropped. -/
theorem commandsOutsideIdleAreDropped : Obligations.CommandsOutsideIdleAreDropped := by
  intro s ie i hidle hi
  obtain ⟨body, hissued⟩ := exists_issued_of_mem hi
  rw [exec_issued hissued, issue_dropped hidle]
  rfl

end Sys2Proof.Machine
end


section
/-! One turn at a time: what the step is at each kind of turn, and the HOST actions that run no command
(spec/20_memory.md R60 to R67, R73, spec/70_reset_and_hazards.md R251). -/

namespace Sys2Proof.Machine

/-! ### Whose turn it is -/

/-- At a HOST turn the step is the HOST's action, the turn taken off (R73). -/
theorem step_host {s : State} {a : HostAction} {rest : List Turn} (hturn : s.host.agenda = .host a :: rest) :
    step s = hostAct a (s.withAgenda rest) := by
  rw [step, takeTurn, hturn]

/-- With an empty agenda the turn is the BLOCK's (R267). -/
theorem step_empty {s : State} (hturn : s.host.agenda = []) : step s = blockTurn s := by
  rw [step, takeTurn, hturn]

/-- At a BLOCK turn the step is the BLOCK's, the turn taken off (R73). -/
theorem step_block {s : State} {rest : List Turn} (hturn : s.host.agenda = .block :: rest) :
    step s = blockTurn (s.withAgenda rest) := by
  rw [step, takeTurn, hturn]

/-- A WAIT stands while BUSY, and the turn is the BLOCK's (R103). -/
theorem step_wait_busy {s : State} {rest : List Turn} (hturn : s.host.agenda = .wait :: rest) (hbusy : s.busy = true) :
    step s = blockTurn s := by
  simp only [step, takeTurn, hturn, hbusy, if_true]

/-- A WAIT passes once BUSY is 0 (R103). -/
theorem step_wait_ready {s : State} {rest : List Turn} (hturn : s.host.agenda = .wait :: rest) (hbusy : s.busy = false) :
    step s = .next (s.withAgenda rest) := by
  simp [step, takeTurn, hturn, hbusy]

/-- The BLOCK's turn is its enabled step (R207). -/
theorem blockTurn_of_enabled {s : State} {o : Host.Outcome State Fault Refusal} (ho : blockStep s = some o) :
    blockTurn s = o := by
  rw [blockTurn, ho]

/-- A BLOCK without an enabled step changes nothing (R206, R207). -/
theorem blockTurn_of_none {s : State} (hnone : blockStep s = none) : blockTurn s = .next s := by
  rw [blockTurn, hnone]

/-- Settles O5: each clause names the turn, and the BLOCK's turn is its enabled step or no change. -/
theorem stepTakesTurns : Obligations.StepTakesTurns := by
  refine ⟨?standing, ?block, fun s rest hturn hbusy => step_wait_ready hturn hbusy⟩
  case standing =>
    intro s o hturn
    have hstep : step s = blockTurn s := by
      rcases hturn with hempty | ⟨hbusy, rest, hwait⟩
      exacts [step_empty hempty, step_wait_busy hwait hbusy]
    rw [hstep]
    exact ⟨blockTurn_of_enabled, blockTurn_of_none⟩
  case block =>
    intro s rest o hturn
    rw [step_block hturn]
    exact ⟨blockTurn_of_enabled, blockTurn_of_none⟩

/-! ### Command words -/

/-- The bits of a 32-bit word are the word. -/
theorem tableWord_toNat (w : Word) : tableWord 32 w.toNat = w := by
  rw [tableWord, Nat.mod_eq_of_lt w.isLt, BitVec.ofNat_toNat, BitVec.setWidth_eq]

/-- Settles O4: a write that decodes runs what it decodes to, and `withFetchWord` places such a write at CTRL. -/
theorem stepRunsDecodedCommand : Obligations.StepRunsDecodedCommand := by
  constructor
  · intro s a d rest i hturn hdecode _
    rw [step_regWrite hturn, regWrite, hdecode]
    rfl
  · intro s w
    have hctrl : decodeWrite 0#6 w = .ok (decode w) := decodeWrite_ok.mpr ⟨by decide, rfl⟩
    rw [State.withFetchWord, tableWord_toNat, step_regWrite (rest := s.host.agenda) rfl, regWrite, hctrl]
    rfl

/-! ### Resets -/

/-- Settles O14: the reset input and SRST are one operation, which writes registers and hidden state only. -/
theorem bothResetsAgree : Obligations.BothResetsAgree :=
  ⟨fun _ => rfl, fun _ _ hturn => step_host hturn⟩

/-- Settles O15: the register file after reset is one constant, read here at all 64 addresses. -/
theorem resetLeavesTheStatedValues : Obligations.ResetLeavesTheStatedValues :=
  ⟨by decide, rfl, rfl⟩

/-! ### Streams -/

/-- Settles O60: an append is the HOST's whole action. -/
theorem hostAppendsAtTheTail : Obligations.HostAppendsAtTheTail :=
  fun _ _ _ _ => ⟨step_host, step_host⟩

/-- Settles O59: the count moves exactly when something is left to read. -/
theorem hostReadsOutputsInOrder : Obligations.HostReadsOutputsInOrder := by
  refine fun s rest => ⟨fun hturn => ?_, fun hturn => ?_⟩
  · rw [step_host hturn]
    by_cases hleft : s.host.boutTaken < s.io.bout.length <;> simp [hostAct, State.boutTake, State.withAgenda, hleft]
  · rw [step_host hturn]
    by_cases hleft : s.host.poutTaken < s.io.pout.length <;> simp [hostAct, State.poutTake, State.withAgenda, hleft]

end Sys2Proof.Machine
end


section
/-! The register port: which register an address selects, what a read returns, and what a write leaves
(spec/20_memory.md R60 to R62, spec/10_state.md R22 to R38). -/

namespace Sys2Proof.Machine

/-! ### What an address selects -/

/-- `addr[1:0]` is ignored (R61). -/
theorem regAt_masked (a : Addr) : regAt (a &&& 0x3C#6) = regAt a := by
  revert a; decide

/-- The reserved offsets (R38). -/
theorem regAt_reserved {a : Addr} (ha : 0x28 ≤ (a &&& 0x3C#6).toNat) : regAt a = .reserved := by
  revert a; decide

/-- The address selects STATUS exactly at 0x04 (R22, R61). -/
theorem regAt_eq_status_iff (a : Addr) : regAt a = .status ↔ a &&& 0x3C#6 = 0x04#6 := by
  revert a; decide

/-- Below the reserved offsets each register has one offset (R22). -/
theorem offset_eq_of_regAt {a : Addr} (ha : regAt a ≠ .reserved) : a &&& 0x3C#6 = (regAt a).offset := by
  revert a; decide

/-- Two addresses that select one register that is not a reserved one have the same offset (R22). -/
theorem offset_inj_of_regAt {a b : Addr} (hb : regAt b ≠ .reserved) (hab : regAt a = regAt b) :
    a &&& 0x3C#6 = b &&& 0x3C#6 := by
  rw [offset_eq_of_regAt hb, offset_eq_of_regAt (hab ▸ hb), hab]

/-! ### Reads -/

/-- Settles O50: the read turn only records the word, and the word depends on the selected register alone. -/
theorem registerReadIsPure : Obligations.RegisterReadIsPure := by
  refine ⟨fun s a rest hturn => step_host hturn, fun s a => ?_, fun s a ha => ?_⟩
  · rw [State.regRead, State.regRead, regAt_masked]
  · rw [State.regRead, regAt_reserved ha]
    rfl

/-- STATUS bits 2 to 0 are the code of the phase (R24). -/
theorem regRead_status_state (s : State) : (s.regRead 0x04).extractLsb' 0 3 = s.h.fsm.code := by
  apply BitVec.eq_of_getLsbD_eq
  intro i hi
  have hstatus : s.regRead 0x04 = s.statusWord := rfl
  rw [hstatus, BitVec.getLsbD_extractLsb', getLsbD_statusWord]
  simp [hi]

/-- STATUS bits 31 to 10 are reserved and read 0 (R24, R38). -/
theorem regRead_status_reserved (s : State) : (s.regRead 0x04).extractLsb' 10 22 = 0 := by
  apply BitVec.eq_of_getLsbD_eq
  intro i hi
  have hstatus : s.regRead 0x04 = s.statusWord := rfl
  rw [hstatus, BitVec.getLsbD_extractLsb', getLsbD_statusWord]
  grind

/-- Two fields packed in one register read as the sum of their place values (R99). -/
theorem toNat_append_eq {m n : Nat} (hi : BitVec m) (lo : BitVec n) :
    (hi ++ lo).toNat = hi.toNat * 2 ^ n + lo.toNat := by
  rw [BitVec.toNat_append, Nat.shiftLeft_eq, Nat.or_comm, Nat.mul_comm, Nat.or_comm,
    Nat.two_pow_add_eq_or_of_lt lo.isLt]

/-- Settles O51: the codes are computed, the fields of STATUS are the lemmas above, and every other register is read as
it is held or as two fields side by side. -/
theorem registersReadTheirFields : Obligations.RegistersReadTheirFields := by
  refine ⟨rfl, rfl, fun s => ⟨?ctrl, regRead_status_state s, ?busy, regRead_status_err s, regRead_status_eos s,
    regRead_status_done s, getLsbD_statusWord s 9, regRead_status_reserved s, ?version, rfl, rfl,
    toNat_append_eq s.regs.y0 s.regs.x0, toNat_append_eq s.regs.ht s.regs.w, ?operands, rfl, rfl⟩⟩
  case ctrl =>
    change s.ctrlWord = _
    cases hie : s.regs.ie <;> simp [State.ctrlWord, hie]
  case busy =>
    change s.statusWord.getLsbD 3 = true ↔ _
    rw [getLsbD_statusWord]
    exact busy_iff
  case version => exact BitVec.toNat_setWidth_of_le (by decide)
  case operands =>
    exact (BitVec.toNat_setWidth_of_le (by decide)).trans (toNat_append_eq s.regs.po s.regs.pe)

/-! ### Writes -/

/-- A write of STATUS writes CMD_DROP at most, and with a 0 only (R29). -/
theorem writeStatus_eq (s : State) (d : Word) :
    s.writeStatus d = { s with regs.cmdDrop := if d.getLsbD 9 then false else s.regs.cmdDrop } := by
  rw [State.writeStatus]
  cases d.getLsbD 9 <;> rfl

/-- A register write at an address other than CTRL's writes the selected register (R62). -/
theorem step_regWrite_other {s : State} {a : Addr} {d : Word} {rest : List Turn}
    (hturn : s.host.agenda = .host (.regWrite a d) :: rest) (ha : a &&& 0x3C#6 ≠ 0#6) :
    step s = .next ((s.withAgenda rest).writeOther (regAt a) d) := by
  rw [step_regWrite hturn]
  rcases regWrite_cases a d (s.withAgenda rest) with ⟨hctrl, -⟩ | ⟨-, hwrite⟩
  · exact absurd ((regSelect_eq_zero a).mp hctrl) ha
  · exact hwrite

/-- Settles O49: at 0x04 the write is one of STATUS. -/
theorem statusWriteClearsOnlyCmdDrop : Obligations.StatusWriteClearsOnlyCmdDrop := by
  intro s a d rest hturn ha
  rw [step_regWrite_other hturn (by rw [ha]; decide), (regAt_eq_status_iff a).mpr ha]
  exact congrArg _ (writeStatus_eq (s.withAgenda rest) d)

/-- The defined fields of an RW data register (R30 to R35); a register that is none has no mask. -/
def dataMask (n : Reg) : Option Word :=
  match n with
  | .hdrVersion => some 0x000000FF#32
  | .hdrIdent => some 0xFFFFFFFF#32
  | .hdrSleep => some 0xFFFFFFFF#32
  | .geomXY => some 0xFFFFFFFF#32
  | .geomWH => some 0xFFFFFFFF#32
  | .dpOperand => some 0x0000FFFF#32
  | _ => none

/-- The offsets with a mask are those of the RW data registers (R22, R30 to R35). -/
theorem dataMask_regAt {a : Addr} {mask : Word}
    (ha : (a &&& 0x3C#6, mask) ∈ [(0x08#6, 0x000000FF#32), (0x0C#6, 0xFFFFFFFF#32), (0x10#6, 0xFFFFFFFF#32),
      (0x14#6, 0xFFFFFFFF#32), (0x18#6, 0xFFFFFFFF#32), (0x1C#6, 0x0000FFFF#32)]) :
    dataMask (regAt a) = some mask := by
  rw [← regAt_masked]
  simp only [List.mem_cons, Prod.mk.injEq, List.not_mem_nil, or_false] at ha
  rcases ha with ⟨h, rfl⟩ | ⟨h, rfl⟩ | ⟨h, rfl⟩ | ⟨h, rfl⟩ | ⟨h, rfl⟩ | ⟨h, rfl⟩ <;> rw [h] <;> rfl

/-- A write of a data register while not BUSY stores the word (R62). -/
theorem writeOther_data {s : State} {n : Reg} {mask : Word} (hn : dataMask n = some mask) (hbusy : s.busy = false)
    (d : Word) : s.writeOther n d = { s with regs := s.regs.store n d } := by
  cases n with
  | hdrVersion | hdrIdent | hdrSleep | geomXY | geomWH | dpOperand => exact storeData_ready hbusy _ d
  | ctrl | status | dpResult | payLen | reserved => cases hn

/-- Keeping the low `k` bits of a word is masking it with `2^k - 1`. -/
theorem setWidth_extractLsb'_eq_and (d mask : Word) (k : Nat) (hmask : mask = (BitVec.allOnes k).setWidth 32) :
    (d.extractLsb' 0 k).setWidth 32 = d &&& mask := by
  subst hmask
  apply BitVec.eq_of_getLsbD_eq
  intro i hi
  by_cases hik : i < k <;> simp [hi, hik]

/-- What a data register reads as after the store: the word, masked to the register's fields (R30 to R35). -/
theorem regValue_store_same {n : Reg} {mask : Word} (hn : dataMask n = some mask) (s : State) (d : Word) :
    { s with regs := s.regs.store n d }.regValue n = d &&& mask := by
  have hall : d &&& 0xFFFFFFFF#32 = d := BitVec.and_allOnes
  have hhalves : d.extractLsb' 16 16 ++ d.extractLsb' 0 16 = d :=
    (BitVec.extractLsb'_append_extractLsb'_eq_extractLsb' (len₁ := 16) (len₂ := 16) rfl).trans BitVec.extractLsb'_eq_self
  cases n with
  | hdrVersion => cases hn; exact setWidth_extractLsb'_eq_and d _ 8 (by decide)
  | hdrIdent => cases hn; exact hall.symm
  | hdrSleep => cases hn; exact hall.symm
  | geomXY => cases hn; exact hhalves.trans hall.symm
  | geomWH => cases hn; exact hhalves.trans hall.symm
  | dpOperand =>
    cases hn
    have hbytes : d.extractLsb' 8 8 ++ d.extractLsb' 0 8 = d.extractLsb' 0 16 :=
      BitVec.extractLsb'_append_extractLsb'_eq_extractLsb' (len₁ := 8) (len₂ := 8) rfl
    exact (congrArg (BitVec.setWidth 32) hbytes).trans (setWidth_extractLsb'_eq_and d _ 16 (by decide))
  | ctrl | status | dpResult | payLen | reserved => cases hn

/-- A store leaves what every other register reads as. -/
theorem regValue_store_ne {m n : Reg} (hmn : m ≠ n) (s : State) (d : Word) :
    { s with regs := s.regs.store n d }.regValue m = s.regValue m := by
  cases n with
  | ctrl | status | dpResult | payLen | reserved => rfl
  | hdrVersion | hdrIdent | hdrSleep | geomXY | geomWH | dpOperand =>
    cases m <;> try exact absurd rfl hmn
    all_goals rfl

/-- Settles O48: the write stores, and a store shows at the addresses of its register alone. -/
theorem dataRegisterWriteReadsBack : Obligations.DataRegisterWriteReadsBack := by
  intro s a d mask rest hturn hbusy hmem
  have hmask : dataMask (regAt a) = some mask := dataMask_regAt hmem
  have hres : regAt a ≠ .reserved := fun h => by rw [h] at hmask; cases hmask
  have hctrl : a &&& 0x3C#6 ≠ 0#6 := fun h => by
    rw [← regAt_masked, h] at hmask
    cases hmask
  let u := s.withAgenda rest
  refine ⟨{ u with regs := u.regs.store (regAt a) d }, ?_, fun b hb => ?_, fun b hb => ?_, rfl, rfl, rfl, rfl⟩
  · rw [step_regWrite_other hturn hctrl, writeOther_data (s := u) hmask hbusy]
  · have hsame : regAt b = regAt a := by rw [← regAt_masked b, hb, regAt_masked]
    rw [State.regRead, hsame]
    exact regValue_store_same hmask u d
  · exact regValue_store_ne (fun hsame => hb (offset_inj_of_regAt hres hsame)) u d

end Sys2Proof.Machine
end


section
/-! The BLOCK's steps phase by phase: the state each leaves, in the terms of the spec, and exactly when there is none
(spec/43_control.md R206, R207). -/

namespace Sys2Proof.Machine

/-! ### Dispatch -/

/-- In ENC_HDR the BLOCK step is the header encoder's (R207). -/
theorem blockStep_encHdr {s : State} (hfsm : s.h.fsm = .encHdr) : blockStep s = some (stepEncHdr s) := by
  simp [blockStep, hfsm]

/-- In ENC_GEOM the BLOCK step is the geometry encoder's (R207). -/
theorem blockStep_encGeom {s : State} (hfsm : s.h.fsm = .encGeom) : blockStep s = some (stepEncGeom s) := by
  simp [blockStep, hfsm]

/-- In ENC_PIX the BLOCK step is the pixel encoder's, on the next sample (R207). -/
theorem blockStep_encPix {s : State} (hfsm : s.h.fsm = .encPix) : blockStep s = onSample s stepEncPix := by
  simp [blockStep, hfsm]

/-- On a byte at the head of BIN a phase that needs a token takes its byte step, the token popped (R64, R207). -/
theorem onToken_byte {s : State} {b : Byte} {rest : List Token} (hbin : s.io.bin = .byte b :: rest)
    (onByte : Byte → State → Host.Outcome State Fault Refusal) (onEnd : State → Host.Outcome State Fault Refusal) :
    onToken s onByte onEnd = some (onByte b { s with io.bin := rest }) := by
  have hpop : s.binPop = some (.byte b, { s with io.bin := rest }) := binPop_eq_some.2 ⟨rest, hbin, rfl⟩
  simp [onToken, hpop]

/-- A phase that needs a token has no step exactly when BIN is empty (R64, R207). -/
theorem onToken_eq_none {s : State} {onByte : Byte → State → Host.Outcome State Fault Refusal}
    {onEnd : State → Host.Outcome State Fault Refusal} : onToken s onByte onEnd = none ↔ s.io.bin = [] := by
  cases hbin : s.io.bin with
  | nil => simp [onToken, binPop_eq_none.2 hbin]
  | cons t rest =>
    cases t with
    | byte b => simp [onToken_byte hbin]
    | endOfStream => simp [onToken_end hbin]

/-- On a sample at the head of PIN the phase that needs one takes its step, the sample popped (R65, R207). -/
theorem onSample_cons {s : State} {p : Byte} {rest : List Byte} (hpin : s.io.pin = p :: rest)
    (onPixel : Byte → State → Host.Outcome State Fault Refusal) :
    onSample s onPixel = some (onPixel p { s with io.pin := rest }) := by
  have hpop : s.pinPop = some (p, { s with io.pin := rest }) := pinPop_eq_some.2 ⟨rest, hpin, rfl⟩
  simp [onSample, hpop]

/-- The phase that needs a sample has no step exactly when PIN is empty (R65, R207). -/
theorem onSample_eq_none {s : State} {onPixel : Byte → State → Host.Outcome State Fault Refusal} :
    onSample s onPixel = none ↔ s.io.pin = [] := by
  cases hpin : s.io.pin with
  | nil => simp [onSample, pinPop_eq_none.2 hpin]
  | cons p rest => simp [onSample_cons hpin]

/-- Settles O24: of the eight phases two have no step, two always have one, and four need an element of a stream. -/
theorem noStepIsEnabledExactlyWhen : Obligations.NoStepIsEnabledExactlyWhen := by
  intro s
  rw [State.blockEnabled, Option.isSome_eq_false_iff, Option.isNone_iff_eq_none]
  cases hfsm : s.h.fsm with
  | idle | error => simp [blockStep, hfsm]
  | encHdr => simp [blockStep_encHdr hfsm]
  | encGeom => simp [blockStep_encGeom hfsm]
  | encPix => simp [blockStep_encPix hfsm, onSample_eq_none]
  | decHdr => simp [blockStep_decHdr hfsm, onToken_eq_none]
  | decGeom => simp [blockStep_decGeom hfsm, onToken_eq_none]
  | decPix => simp [blockStep_decPix hfsm, onToken_eq_none]

/-! ### The encoder's bytes -/

/-- The index reaches the end of a header exactly from 8 (R122, R124). -/
theorem idx_add_one_eq_nine (i : BitVec 4) : i + 1 = 9 ↔ i = 8 := by
  revert i; decide

/-- The index reaches the end of a descriptor exactly from 7 (R143, R148). -/
theorem idx_add_one_eq_eight (i : BitVec 4) : i + 1 = 8 ↔ i = 7 := by
  revert i; decide

/-- Settles O16: `hdr_byte` is the header's byte in stream order, and the index after it tells the ninth. -/
theorem encHdrStep : Obligations.EncHdrStep := by
  intro s hfsm hidx
  obtain ⟨b, hb⟩ : ∃ b, (headerBytes s.regs.hdrVersion s.regs.hdrIdent s.regs.hdrSleep)[s.h.idx.toNat]? = some b :=
    ⟨_, List.getElem?_eq_getElem hidx⟩
  refine ⟨b, hb, ?_⟩
  rw [blockStep_encHdr hfsm, stepEncHdr, hdrByte_eq, hb]
  simp only [encHdrEnd, State.nextIdx_h_idx, State.boutPush_h, idx_add_one_eq_nine]
  by_cases h8 : s.h.idx = 8
  · simp only [if_pos h8]
    rfl
  · simp only [if_neg h8]
    rw [← hfsm]
    rfl

/-- Settles O17: `geom_byte` is the descriptor's byte in stream order, and after the eighth the size decides. -/
theorem encGeomStep : Obligations.EncGeomStep := by
  intro s hfsm hidx
  obtain ⟨b, hb⟩ : ∃ b, (geometryBytes s.regs.x0 s.regs.y0 s.regs.w s.regs.ht)[s.h.idx.toNat]? = some b :=
    ⟨_, List.getElem?_eq_getElem hidx⟩
  refine ⟨b, hb, ?_⟩
  rw [blockStep_encGeom hfsm, stepEncGeom, geomByte_eq, hb]
  simp only [encGeomEnd, State.nextIdx_h_idx, State.boutPush_h, idx_add_one_eq_eight]
  by_cases h7 : s.h.idx = 7
  · by_cases hempty : s.regs.w = 0 ∨ s.regs.ht = 0
    · simp only [if_pos h7, if_pos hempty, if_pos (And.intro h7 hempty)]
      exact congrArg (some ∘ Host.Outcome.next) (if_pos hempty)
    · simp only [if_pos h7, if_neg hempty, if_neg (fun h : _ ∧ _ => hempty h.2)]
      exact congrArg (some ∘ Host.Outcome.next) (if_neg hempty)
  · simp only [if_neg h7, if_neg (fun h : _ ∧ _ => h7 h.1)]
    rw [← hfsm]
    rfl

/-! ### The encoder's pixels -/

/-- What a sample does, its column's parity said as a number (R145). -/
theorem encSample_eq (p : Byte) (s : State) :
    encSample p s = { s with
      io.bout := if s.h.col.toNat % 2 = 0 then s.io.bout else s.io.bout ++ [p.extractLsb' 4 4 ++ s.h.hold]
      h.hold := if s.h.col.toNat % 2 = 0 then p.extractLsb' 4 4 else s.h.hold } := by
  have hodd := getLsbD_zero_iff_odd s.h.col
  by_cases heven : s.h.col.toNat % 2 = 0
  · simp only [encSample, if_pos heven, if_neg (show ¬ s.h.col.getLsbD 0 = true by rw [hodd]; omega)]
    rfl
  · simp only [encSample, if_neg heven, if_pos (show s.h.col.getLsbD 0 = true by rw [hodd]; omega)]
    rfl

/-- Where the scan goes after a sample (R145). -/
theorem encAdvance_eq {s : State} (hfsm : s.h.fsm = .encPix) :
    encAdvance s = { s with
      h.col := if s.h.col + 1 = s.regs.w then 0 else s.h.col + 1
      h.row := if s.h.col + 1 = s.regs.w then s.h.row + 1 else s.h.row
      h.fsm := if s.h.col + 1 = s.regs.w ∧ s.h.row + 1 = s.regs.ht then .idle else .encPix
      regs.done := if s.h.col + 1 = s.regs.w ∧ s.h.row + 1 = s.regs.ht then true else s.regs.done } := by
  by_cases hcol : s.h.col + 1 = s.regs.w
  · by_cases hrow : s.h.row + 1 = s.regs.ht
    · simp only [encAdvance, if_pos hcol, if_pos hrow, if_pos (And.intro hcol hrow)]
      rfl
    · simp only [encAdvance, if_pos hcol, if_neg hrow, if_neg (fun h : _ ∧ _ => hrow h.2)]
      rw [← hfsm]
  · simp only [encAdvance, if_neg hcol, if_neg (fun h : _ ∧ _ => hcol h.1)]
    rw [← hfsm]

/-- Settles O18: without a sample the phase has no step; with one, the sample's effect and then the scan's. -/
theorem encPixStep : Obligations.EncPixStep := by
  refine ⟨fun s hfsm hpin => by rw [blockStep_encPix hfsm, onSample_eq_none.mpr hpin], fun s p rest hfsm hpin => ?_⟩
  rw [blockStep_encPix hfsm, onSample_cons hpin, stepEncPix, encSample_eq, encAdvance_eq (by exact hfsm)]

/-! ### The decoder's bytes -/

/-- A byte at an index inside its record is stored there, and the index moves on (R124, R148). -/
theorem storeByte_of_lt {s : State} {len : Nat} (hidx : s.h.idx.toNat < len) (b : Byte) :
    s.storeByte len b
      = some { s with h.buf := s.h.buf.setIfInBounds s.h.idx.toNat b, h.idx := s.h.idx + 1 } :=
  storeByte_eq_some.mpr ⟨hidx, rfl⟩

/-- What a complete header leaves: the registers loaded either way, and the version decides the end (R126). -/
theorem completeHeader_eq (s : State) :
    completeHeader s = { s with
      regs.hdrVersion := s.h.buf[0]
      regs.hdrIdent := s.h.buf[4] ++ s.h.buf[3] ++ s.h.buf[2] ++ s.h.buf[1]
      regs.hdrSleep := s.h.buf[8] ++ s.h.buf[7] ++ s.h.buf[6] ++ s.h.buf[5]
      regs.done := if s.h.buf[0] = 1 then true else s.regs.done
      regs.err := if s.h.buf[0] = 1 then s.regs.err else .unsupportedVersion
      h.fsm := if s.h.buf[0] = 1 then .idle else .error } := by
  rw [← le32_eq_append, ← le32_eq_append]
  by_cases hversion : s.h.buf[0] = 1
  · simp only [if_pos hversion]
    exact if_pos hversion
  · simp only [if_neg hversion]
    exact if_neg hversion

/-- Settles O19: a byte before the ninth is only stored; after the ninth the header registers take the buffer. -/
theorem decHdrByteStep : Obligations.DecHdrByteStep := by
  intro s b rest hfsm hbin
  refine ⟨fun hidx => ?_, fun hidx => ?_⟩
  · have hne : s.h.idx + 1 ≠ 9 := fun h => by
      rw [(idx_add_one_eq_nine _).mp h] at hidx
      exact absurd hidx (by decide)
    rw [blockStep_decHdr hfsm, onToken_byte hbin, stepDecHdrByte,
      storeByte_of_lt (s := { s with io.bin := rest }) (Nat.lt_succ_of_lt hidx)]
    exact congrArg (some ∘ Host.Outcome.next) (if_neg hne)
  · rw [blockStep_decHdr hfsm, onToken_byte hbin, stepDecHdrByte,
      storeByte_of_lt (s := { s with io.bin := rest }) (by simp [hidx])]
    simp [decHdrEnd, hidx, completeHeader_eq]

/-- What a complete descriptor leaves: the geometry registers, PAY_LEN and the scan of their window, and either the end
or the payload (R148). -/
theorem completeGeometry_eq {s : State} {x0 y0 w ht : Half} {v : Window} (hx0 : x0 = s.h.buf[1] ++ s.h.buf[0])
    (hy0 : y0 = s.h.buf[3] ++ s.h.buf[2]) (hw : w = s.h.buf[5] ++ s.h.buf[4]) (hht : ht = s.h.buf[7] ++ s.h.buf[6])
    (hv : v = scanWindow s.extentMode x0 y0 w ht) :
    completeGeometry s = { s with
      regs.x0 := x0, regs.y0 := y0, regs.w := w, regs.ht := ht, regs.payLen := payLenOf v
      h.xs := v.xs, h.xe := v.xe, h.ye := v.ye, h.dx := v.xs, h.dy := v.ys
      regs.done := if payLenOf v = 0 then true else s.regs.done
      h.fsm := if payLenOf v = 0 then .idle else .decPix } := by
  rw [← le16_eq_append] at hx0 hy0 hw hht
  subst hx0 hy0 hw hht
  have hwindow : s.loadGeometry.window = v := hv.symm
  have hpay : s.loadGeometry.startScan.regs.payLen = payLenOf v := by rw [State.startScan_regs_payLen, hwindow]
  rw [completeGeometry, hpay]
  by_cases hzero : payLenOf v = 0
  · simp only [if_pos hzero]
    subst hwindow
    rfl
  · simp only [if_neg hzero]
    subst hwindow
    rfl

/-- Settles O20: a byte before the eighth is only stored; after the eighth the geometry registers take the buffer, and
the scan their window. -/
theorem decGeomByteStep : Obligations.DecGeomByteStep := by
  intro s b rest hfsm hbin
  refine ⟨fun hidx => ?_, fun hidx x0 y0 w ht v hx0 hy0 hw hht hv => ?_⟩
  · have hne : s.h.idx + 1 ≠ 8 := fun h => by
      rw [(idx_add_one_eq_eight _).mp h] at hidx
      exact absurd hidx (by decide)
    rw [blockStep_decGeom hfsm, onToken_byte hbin, stepDecGeomByte,
      storeByte_of_lt (s := { s with io.bin := rest }) (Nat.lt_succ_of_lt hidx)]
    exact congrArg (some ∘ Host.Outcome.next) (if_neg hne)
  · let t : State := { s with io.bin := rest, h.buf := s.h.buf.setIfInBounds s.h.idx.toNat b, h.idx := s.h.idx + 1 }
    have hcomplete := completeGeometry_eq (s := t) (x0 := x0) (y0 := y0) (w := w) (ht := ht) (v := v)
      (by simp [t, hidx, hx0]) (by simp [t, hidx, hy0]) (by simp [t, hidx, hw]) (by simp [t, hidx, hht]) hv
    rw [blockStep_decGeom hfsm, onToken_byte hbin, stepDecGeomByte,
      storeByte_of_lt (s := { s with io.bin := rest }) (by simp [hidx])]
    refine congrArg (some ∘ Host.Outcome.next) ((if_pos ((idx_add_one_eq_eight _).mpr hidx)).trans (hcomplete.trans ?_))
    simp [t, hidx]

/-! ### The decoder's pixels -/

/-- The two writes of a payload byte, the left pixel first (R152, R183). -/
theorem decWrites_eq (b : Byte) (s : State) :
    decWrites b s = { s with
      io.pout := s.io.pout ++ [{ x := s.h.dx, y := s.h.dy, v := b.extractLsb' 0 4 ++ 0#4 },
        { x := s.h.dx + 1, y := s.h.dy, v := b.extractLsb' 4 4 ++ 0#4 }] } := by
  rw [← unpackLeft_eq, ← unpackRight_eq]
  simp [decWrites, State.poutPush]

/-- Where the scan goes after a payload byte (R152). -/
theorem decAdvance_eq {s : State} (hfsm : s.h.fsm = .decPix) :
    decAdvance s = { s with
      h.dx := if s.h.xe ≤ s.h.dx + 2 then s.h.xs else s.h.dx + 2
      h.dy := if s.h.xe ≤ s.h.dx + 2 then s.h.dy + 1 else s.h.dy
      h.fsm := if s.h.xe ≤ s.h.dx + 2 ∧ s.h.ye ≤ s.h.dy + 1 then .idle else .decPix
      regs.done := if s.h.xe ≤ s.h.dx + 2 ∧ s.h.ye ≤ s.h.dy + 1 then true else s.regs.done } := by
  by_cases hcol : s.h.xe ≤ s.h.dx + 2
  · by_cases hrow : s.h.ye ≤ s.h.dy + 1
    · simp only [decAdvance, if_pos hcol, if_pos hrow, if_pos (And.intro hcol hrow)]
      rfl
    · simp only [decAdvance, if_pos hcol, if_neg hrow, if_neg (fun h : _ ∧ _ => hrow h.2)]
      rw [← hfsm]
  · simp only [decAdvance, if_neg hcol, if_neg (fun h : _ ∧ _ => hcol h.1)]
    rw [← hfsm]

/-- Settles O22: the byte's two writes and then the scan's move. -/
theorem decPixByteStep : Obligations.DecPixByteStep := by
  intro s b rest hfsm hbin
  rw [blockStep_decPix hfsm, onToken_byte hbin, stepDecPixByte, decWrites_eq, decAdvance_eq (by exact hfsm)]

end Sys2Proof.Machine
end


section
/-! What a step can do, said once: every move of the BLOCK, of the HOST, and of the machine, as three relations that the
model's functions are shown to meet. The invariants and the rules about whole steps are read off them. -/

namespace Sys2Proof.Machine

/-! ### The BLOCK's moves -/

/-- The moves of the BLOCK, one constructor for each way a phase can go on (R122, R124 to R126, R143 to R145, R148, R149,
R152, R153). Where a rule needs no more than that a byte goes out or a buffer changes, the value is left open. -/
inductive BlockMove (s : State) : State → Prop
  | encHdrByte (b : Byte) (hfsm : s.h.fsm = .encHdr) (hidx : s.h.idx.toNat < 8) :
      BlockMove s { s with io.bout := s.io.bout ++ [b], h.idx := s.h.idx + 1, h.fsm := .encHdr }
  | encHdrLast (b : Byte) (hfsm : s.h.fsm = .encHdr) (hidx : s.h.idx = 8) :
      BlockMove s { s with io.bout := s.io.bout ++ [b], h.idx := s.h.idx + 1, h.fsm := .idle, regs.done := true }
  | encGeomByte (b : Byte) (hfsm : s.h.fsm = .encGeom) (hidx : s.h.idx.toNat < 7) :
      BlockMove s { s with io.bout := s.io.bout ++ [b], h.idx := s.h.idx + 1, h.fsm := .encGeom }
  | encGeomEmpty (b : Byte) (hfsm : s.h.fsm = .encGeom) (hidx : s.h.idx = 7) :
      BlockMove s { s with io.bout := s.io.bout ++ [b], h.idx := s.h.idx + 1, h.fsm := .idle, regs.done := true }
  | encGeomLast (b : Byte) (hfsm : s.h.fsm = .encGeom) (hidx : s.h.idx = 7) (hw : s.regs.w ≠ 0) (hht : s.regs.ht ≠ 0) :
      BlockMove s { s with io.bout := s.io.bout ++ [b], h.idx := s.h.idx + 1, h.fsm := .encPix }
  | encPixCol (p : Byte) (rest bout : List Byte) (hold : Nibble) (hfsm : s.h.fsm = .encPix) (hpin : s.io.pin = p :: rest)
      (hbout : bout = s.io.bout ∨ ∃ b, bout = s.io.bout ++ [b]) (hcol : s.h.col + 1 ≠ s.regs.w) :
      BlockMove s { s with
        io.pin := rest, io.bout := bout, h.hold := hold, h.col := s.h.col + 1, h.fsm := .encPix }
  | encPixRow (p : Byte) (rest bout : List Byte) (hold : Nibble) (hfsm : s.h.fsm = .encPix) (hpin : s.io.pin = p :: rest)
      (hbout : bout = s.io.bout ∨ ∃ b, bout = s.io.bout ++ [b]) (hcol : s.h.col + 1 = s.regs.w)
      (hrow : s.h.row + 1 ≠ s.regs.ht) :
      BlockMove s { s with
        io.pin := rest, io.bout := bout, h.hold := hold, h.col := 0, h.row := s.h.row + 1, h.fsm := .encPix }
  | encPixLast (p : Byte) (rest bout : List Byte) (hold : Nibble) (hfsm : s.h.fsm = .encPix) (hpin : s.io.pin = p :: rest)
      (hbout : bout = s.io.bout ∨ ∃ b, bout = s.io.bout ++ [b]) (hcol : s.h.col + 1 = s.regs.w)
      (hrow : s.h.row + 1 = s.regs.ht) :
      BlockMove s { s with
        io.pin := rest, io.bout := bout, h.hold := hold, h.col := 0, h.row := s.h.row + 1, h.fsm := .idle
        regs.done := true }
  | decHdrByte (b : Byte) (rest : List Token) (buf : Vector Byte 9) (hfsm : s.h.fsm = .decHdr)
      (hbin : s.io.bin = .byte b :: rest) (hidx : s.h.idx.toNat < 8) :
      BlockMove s { s with io.bin := rest, h.buf := buf, h.idx := s.h.idx + 1, h.fsm := .decHdr }
  | decHdrLast (b : Byte) (rest : List Token) (buf : Vector Byte 9) (version : Byte) (identifier sleepSeconds : Word)
      (hfsm : s.h.fsm = .decHdr) (hbin : s.io.bin = .byte b :: rest) (hidx : s.h.idx = 8) :
      BlockMove s { s with
        io.bin := rest, h.buf := buf, h.idx := 9, h.fsm := .idle, regs.done := true
        regs.hdrVersion := version, regs.hdrIdent := identifier, regs.hdrSleep := sleepSeconds }
  | decHdrRejected (b : Byte) (rest : List Token) (buf : Vector Byte 9) (version : Byte) (identifier sleepSeconds : Word)
      (hfsm : s.h.fsm = .decHdr) (hbin : s.io.bin = .byte b :: rest) (hidx : s.h.idx = 8) :
      BlockMove s { s with
        io.bin := rest, h.buf := buf, h.idx := 9, h.fsm := .error, regs.err := .unsupportedVersion
        regs.hdrVersion := version, regs.hdrIdent := identifier, regs.hdrSleep := sleepSeconds }
  | decGeomByte (b : Byte) (rest : List Token) (buf : Vector Byte 9) (hfsm : s.h.fsm = .decGeom)
      (hbin : s.io.bin = .byte b :: rest) (hidx : s.h.idx.toNat < 7) :
      BlockMove s { s with io.bin := rest, h.buf := buf, h.idx := s.h.idx + 1, h.fsm := .decGeom }
  | decGeomEmpty (b : Byte) (rest : List Token) (buf : Vector Byte 9) (x0 y0 w ht : Half) (v : Window)
      (hfsm : s.h.fsm = .decGeom) (hbin : s.io.bin = .byte b :: rest) (hidx : s.h.idx = 7)
      (hv : v = scanWindow s.extentMode x0 y0 w ht) :
      BlockMove s { s with
        io.bin := rest, h.buf := buf, h.idx := 8, h.fsm := .idle, regs.done := true
        regs.x0 := x0, regs.y0 := y0, regs.w := w, regs.ht := ht, regs.payLen := payLenOf v
        h.xs := v.xs, h.xe := v.xe, h.ye := v.ye, h.dx := v.xs, h.dy := v.ys }
  | decGeomLast (b : Byte) (rest : List Token) (buf : Vector Byte 9) (x0 y0 w ht : Half) (v : Window)
      (hfsm : s.h.fsm = .decGeom) (hbin : s.io.bin = .byte b :: rest) (hidx : s.h.idx = 7)
      (hv : v = scanWindow s.extentMode x0 y0 w ht) (hpay : payLenOf v ≠ 0) :
      BlockMove s { s with
        io.bin := rest, h.buf := buf, h.idx := 8, h.fsm := .decPix
        regs.x0 := x0, regs.y0 := y0, regs.w := w, regs.ht := ht, regs.payLen := payLenOf v
        h.xs := v.xs, h.xe := v.xe, h.ye := v.ye, h.dx := v.xs, h.dy := v.ys }
  | decGeomEnd (rest : List Token) (hfsm : s.h.fsm = .decGeom) (hbin : s.io.bin = .endOfStream :: rest) :
      BlockMove s { s with io.bin := rest, regs.eos := true, regs.done := true, h.fsm := .idle }
  | decPixCol (b : Byte) (rest : List Token) (vl vr : Byte) (hfsm : s.h.fsm = .decPix)
      (hbin : s.io.bin = .byte b :: rest) (hcol : ¬ s.h.xe ≤ s.h.dx + 2) :
      BlockMove s { s with
        io.bin := rest
        io.pout := s.io.pout ++ [{ x := s.h.dx, y := s.h.dy, v := vl }, { x := s.h.dx + 1, y := s.h.dy, v := vr }]
        h.dx := s.h.dx + 2, h.fsm := .decPix }
  | decPixRow (b : Byte) (rest : List Token) (vl vr : Byte) (hfsm : s.h.fsm = .decPix)
      (hbin : s.io.bin = .byte b :: rest) (hcol : s.h.xe ≤ s.h.dx + 2) (hrow : ¬ s.h.ye ≤ s.h.dy + 1) :
      BlockMove s { s with
        io.bin := rest
        io.pout := s.io.pout ++ [{ x := s.h.dx, y := s.h.dy, v := vl }, { x := s.h.dx + 1, y := s.h.dy, v := vr }]
        h.dx := s.h.xs, h.dy := s.h.dy + 1, h.fsm := .decPix }
  | decPixLast (b : Byte) (rest : List Token) (vl vr : Byte) (hfsm : s.h.fsm = .decPix)
      (hbin : s.io.bin = .byte b :: rest) (hcol : s.h.xe ≤ s.h.dx + 2) (hrow : s.h.ye ≤ s.h.dy + 1) :
      BlockMove s { s with
        io.bin := rest
        io.pout := s.io.pout ++ [{ x := s.h.dx, y := s.h.dy, v := vl }, { x := s.h.dx + 1, y := s.h.dy, v := vr }]
        h.dx := s.h.xs, h.dy := s.h.dy + 1, h.fsm := .idle
        regs.done := true }
  | truncated (rest : List Token) (hfsm : s.h.fsm = .decHdr ∨ s.h.fsm = .decGeom ∨ s.h.fsm = .decPix)
      (hbin : s.io.bin = .endOfStream :: rest) :
      BlockMove s { s with io.bin := rest, regs.err := .truncatedStream, h.fsm := .error }

/-- A header emission past the ninth byte is the model's fault (log 6). -/
theorem stepEncHdr_of_ge {s : State} (hidx : 9 ≤ s.h.idx.toNat) : stepEncHdr s = .fault .noSuchByte := by
  rw [stepEncHdr, hdrByte_eq, List.getElem?_eq_none (by exact hidx)]

/-- A descriptor emission past the eighth byte is the model's fault (log 6). -/
theorem stepEncGeom_of_ge {s : State} (hidx : 8 ≤ s.h.idx.toNat) : stepEncGeom s = .fault .noSuchByte := by
  rw [stepEncGeom, geomByte_eq, List.getElem?_eq_none (by exact hidx)]

/-- A header byte past the ninth is the model's fault (log 6). -/
theorem stepDecHdrByte_of_ge {s : State} (hidx : 9 ≤ s.h.idx.toNat) (b : Byte) :
    stepDecHdrByte b s = .fault .noSuchByte := by
  rw [stepDecHdrByte, storeByte_eq_none.mpr hidx]

/-- A descriptor byte past the eighth is the model's fault (log 6). -/
theorem stepDecGeomByte_of_ge {s : State} (hidx : 8 ≤ s.h.idx.toNat) (b : Byte) :
    stepDecGeomByte b s = .fault .noSuchByte := by
  rw [stepDecGeomByte, storeByte_eq_none.mpr hidx]

/-- A 4-bit index below `n + 1` is below `n` or is `n`. -/
theorem idx_lt_or_eq {i : BitVec 4} {n : Nat} (hi : i.toNat < n + 1) : i.toNat < n ∨ i = BitVec.ofNat 4 n := by
  rcases Nat.lt_succ_iff_lt_or_eq.mp hi with hlt | heq
  · exact .inl hlt
  · exact .inr (by rw [← heq, BitVec.ofNat_toNat, BitVec.setWidth_eq])

/-- Two answers of one BLOCK step are the same state. -/
theorem eq_of_blockStep {s t u : State} (ht : blockStep s = some (.next t)) (hu : blockStep s = some (.next u)) : u = t := by
  rw [ht] at hu
  cases hu
  rfl

/-- A step in ENC_HDR that answers a next state is at one of the nine header bytes (R120). -/
theorem encHdr_idx_lt {s t : State} (hfsm : s.h.fsm = .encHdr) (ht : blockStep s = some (.next t)) :
    s.h.idx.toNat < 9 := by
  by_contra hge
  rw [blockStep_encHdr hfsm, stepEncHdr_of_ge (Nat.not_lt.mp hge)] at ht
  cases ht

/-- A step in ENC_GEOM that answers a next state is at one of the eight descriptor bytes (R141). -/
theorem encGeom_idx_lt {s t : State} (hfsm : s.h.fsm = .encGeom) (ht : blockStep s = some (.next t)) :
    s.h.idx.toNat < 8 := by
  by_contra hge
  rw [blockStep_encGeom hfsm, stepEncGeom_of_ge (Nat.not_lt.mp hge)] at ht
  cases ht

/-- A byte step in DEC_HDR that answers a next state is at one of the nine header bytes (R124). -/
theorem decHdr_idx_lt {s t : State} {b : Byte} {rest : List Token} (hfsm : s.h.fsm = .decHdr)
    (hbin : s.io.bin = .byte b :: rest) (ht : blockStep s = some (.next t)) : s.h.idx.toNat < 9 := by
  by_contra hge
  rw [blockStep_decHdr hfsm, onToken_byte hbin, stepDecHdrByte_of_ge (s := { s with io.bin := rest }) (Nat.not_lt.mp hge)] at ht
  cases ht

/-- A byte step in DEC_GEOM that answers a next state is at one of the eight descriptor bytes (R148). -/
theorem decGeom_idx_lt {s t : State} {b : Byte} {rest : List Token} (hfsm : s.h.fsm = .decGeom)
    (hbin : s.io.bin = .byte b :: rest) (ht : blockStep s = some (.next t)) : s.h.idx.toNat < 8 := by
  by_contra hge
  rw [blockStep_decGeom hfsm, onToken_byte hbin, stepDecGeomByte_of_ge (s := { s with io.bin := rest }) (Nat.not_lt.mp hge)] at ht
  cases ht

/-- ENC_HDR moves (R122). -/
theorem blockMove_encHdr {s t : State} (hfsm : s.h.fsm = .encHdr) (ht : blockStep s = some (.next t)) :
    BlockMove s t := by
  have hlt := encHdr_idx_lt hfsm ht
  obtain ⟨b, -, hstep⟩ := encHdrStep s hfsm hlt
  obtain rfl := eq_of_blockStep ht hstep
  rcases idx_lt_or_eq hlt with hidx | hidx
  · have hne : s.h.idx ≠ 8 := fun h => by rw [h] at hidx; exact absurd hidx (by decide)
    simp only [if_neg hne]
    exact .encHdrByte b hfsm hidx
  · simp only [if_pos (show s.h.idx = 8 from hidx)]
    exact .encHdrLast b hfsm hidx

/-- ENC_GEOM moves (R143, R144). -/
theorem blockMove_encGeom {s t : State} (hfsm : s.h.fsm = .encGeom) (ht : blockStep s = some (.next t)) :
    BlockMove s t := by
  have hlt := encGeom_idx_lt hfsm ht
  obtain ⟨b, -, hstep⟩ := encGeomStep s hfsm hlt
  obtain rfl := eq_of_blockStep ht hstep
  rcases idx_lt_or_eq hlt with hidx | hidx
  · have hne : s.h.idx ≠ 7 := fun h => by rw [h] at hidx; exact absurd hidx (by decide)
    simp only [if_neg hne, if_neg (fun h : _ ∧ _ => hne h.1)]
    exact .encGeomByte b hfsm hidx
  · have h7 : s.h.idx = 7 := hidx
    by_cases hempty : s.regs.w = 0 ∨ s.regs.ht = 0
    · simp only [if_pos h7, if_pos hempty, if_pos (And.intro h7 hempty)]
      exact .encGeomEmpty b hfsm h7
    · simp only [if_pos h7, if_neg hempty, if_neg (fun h : _ ∧ _ => hempty h.2)]
      exact .encGeomLast b hfsm h7 (fun h => hempty (.inl h)) (fun h => hempty (.inr h))

/-- ENC_PIX moves on a sample (R145). -/
theorem blockMove_encPix {s t : State} {p : Byte} {rest : List Byte} (hfsm : s.h.fsm = .encPix)
    (hpin : s.io.pin = p :: rest) (ht : blockStep s = some (.next t)) : BlockMove s t := by
  obtain rfl := eq_of_blockStep ht (encPixStep.2 s p rest hfsm hpin)
  have hbout : (if s.h.col.toNat % 2 = 0 then s.io.bout else s.io.bout ++ [p.extractLsb' 4 4 ++ s.h.hold]) = s.io.bout
      ∨ ∃ b, (if s.h.col.toNat % 2 = 0 then s.io.bout else s.io.bout ++ [p.extractLsb' 4 4 ++ s.h.hold])
        = s.io.bout ++ [b] := by
    split
    exacts [.inl rfl, .inr ⟨_, rfl⟩]
  by_cases hcol : s.h.col + 1 = s.regs.w
  · by_cases hrow : s.h.row + 1 = s.regs.ht
    · simp only [if_pos hcol, if_pos (And.intro hcol hrow)]
      exact .encPixLast p rest _ _ hfsm hpin hbout hcol hrow
    · simp only [if_pos hcol, if_neg (fun h : _ ∧ _ => hrow h.2)]
      exact .encPixRow p rest _ _ hfsm hpin hbout hcol hrow
  · simp only [if_neg hcol, if_neg (fun h : _ ∧ _ => hcol h.1)]
    exact .encPixCol p rest _ _ hfsm hpin hbout hcol

/-- DEC_HDR moves on a byte (R124, R126). -/
theorem blockMove_decHdr {s t : State} {b : Byte} {rest : List Token} (hfsm : s.h.fsm = .decHdr)
    (hbin : s.io.bin = .byte b :: rest) (ht : blockStep s = some (.next t)) : BlockMove s t := by
  have hlt := decHdr_idx_lt hfsm hbin ht
  rcases idx_lt_or_eq hlt with hidx | hidx
  · obtain rfl := eq_of_blockStep ht ((decHdrByteStep s b rest hfsm hbin).1 hidx)
    have hmove := BlockMove.decHdrByte b rest (s.h.buf.setIfInBounds s.h.idx.toNat b) hfsm hbin hidx
    rwa [← hfsm] at hmove
  · obtain rfl := eq_of_blockStep ht ((decHdrByteStep s b rest hfsm hbin).2 hidx)
    by_cases hversion : s.h.buf[0] = 1
    · simp only [if_pos hversion]
      exact .decHdrLast b rest _ _ _ _ hfsm hbin hidx
    · simp only [if_neg hversion]
      exact .decHdrRejected b rest _ _ _ _ hfsm hbin hidx

/-- DEC_GEOM moves on a byte (R148). -/
theorem blockMove_decGeom {s t : State} {b : Byte} {rest : List Token} (hfsm : s.h.fsm = .decGeom)
    (hbin : s.io.bin = .byte b :: rest) (ht : blockStep s = some (.next t)) : BlockMove s t := by
  have hlt := decGeom_idx_lt hfsm hbin ht
  rcases idx_lt_or_eq hlt with hidx | hidx
  · obtain rfl := eq_of_blockStep ht ((decGeomByteStep s b rest hfsm hbin).1 hidx)
    have hmove := BlockMove.decGeomByte b rest (s.h.buf.setIfInBounds s.h.idx.toNat b) hfsm hbin hidx
    rwa [← hfsm] at hmove
  · obtain rfl := eq_of_blockStep ht ((decGeomByteStep s b rest hfsm hbin).2 hidx _ _ _ _ _ rfl rfl rfl rfl rfl)
    by_cases hpay : payLenOf (scanWindow s.extentMode (s.h.buf[1] ++ s.h.buf[0]) (s.h.buf[3] ++ s.h.buf[2])
        (s.h.buf[5] ++ s.h.buf[4]) (b ++ s.h.buf[6])) = 0
    · simp only [if_pos hpay]
      exact .decGeomEmpty b rest _ _ _ _ _ _ hfsm hbin hidx rfl
    · simp only [if_neg hpay]
      exact .decGeomLast b rest _ _ _ _ _ _ hfsm hbin hidx rfl hpay

/-- DEC_GEOM moves on `End` (R149). -/
theorem blockMove_decGeom_end {s t : State} {rest : List Token} (hfsm : s.h.fsm = .decGeom)
    (hbin : s.io.bin = .endOfStream :: rest) (ht : blockStep s = some (.next t)) : BlockMove s t := by
  rcases Nat.lt_or_ge s.h.idx.toNat 2 with hidx | hidx
  · obtain rfl := eq_of_blockStep ht ((decGeomEndStep s rest hfsm hbin).1 hidx)
    exact .decGeomEnd rest hfsm hbin
  · obtain rfl := eq_of_blockStep ht ((decGeomEndStep s rest hfsm hbin).2 hidx)
    exact .truncated rest (.inr (.inl hfsm)) hbin

/-- DEC_PIX moves on a byte (R152). -/
theorem blockMove_decPix {s t : State} {b : Byte} {rest : List Token} (hfsm : s.h.fsm = .decPix)
    (hbin : s.io.bin = .byte b :: rest) (ht : blockStep s = some (.next t)) : BlockMove s t := by
  obtain rfl := eq_of_blockStep ht (decPixByteStep s b rest hfsm hbin)
  by_cases hcol : s.h.xe ≤ s.h.dx + 2
  · by_cases hrow : s.h.ye ≤ s.h.dy + 1
    · simp only [if_pos hcol, if_pos (And.intro hcol hrow)]
      exact .decPixLast b rest _ _ hfsm hbin hcol hrow
    · simp only [if_pos hcol, if_neg (fun h : _ ∧ _ => hrow h.2)]
      exact .decPixRow b rest _ _ hfsm hbin hcol hrow
  · simp only [if_neg hcol, if_neg (fun h : _ ∧ _ => hcol h.1)]
    exact .decPixCol b rest _ _ hfsm hbin hcol

/-- Every BLOCK step that answers a next state is one of the moves (R207). -/
theorem blockMove_of_blockStep {s t : State} (ht : blockStep s = some (.next t)) : BlockMove s t := by
  rcases blockStep_cases ht with ⟨hfsm, -⟩ | ⟨hfsm, -⟩ | ⟨hfsm, p, rest, hpin, -⟩
    | ⟨hfsm, rest, ⟨b, hbin, -⟩ | ⟨hbin, -⟩⟩ | ⟨hfsm, rest, ⟨b, hbin, -⟩ | ⟨hbin, -⟩⟩
    | ⟨hfsm, rest, ⟨b, hbin, -⟩ | ⟨hbin, -⟩⟩
  · exact blockMove_encHdr hfsm ht
  · exact blockMove_encGeom hfsm ht
  · exact blockMove_encPix hfsm hpin ht
  · exact blockMove_decHdr hfsm hbin ht
  · obtain rfl := eq_of_blockStep ht (endTokenTruncates s rest (.inl hfsm) hbin)
    exact .truncated rest (.inl hfsm) hbin
  · exact blockMove_decGeom hfsm hbin ht
  · exact blockMove_decGeom_end hfsm hbin ht
  · exact blockMove_decPix hfsm hbin ht
  · obtain rfl := eq_of_blockStep ht (endTokenTruncates s rest (.inr hfsm) hbin)
    exact .truncated rest (.inr (.inr hfsm)) hbin

/-! ### The HOST's moves -/

/-- The moves of the HOST from `u`, whose turn is already off the agenda: for each action, and for a register write for
each thing it can be, what is left (R29, R60 to R67, R200 to R205, R250). -/
inductive HostMove (u : State) : HostAction → State → Prop
  | resetPin : HostMove u .resetPin u.resetBlock
  | srst (a : Addr) (d : Word) (hctrl : regSelect a = 0x0#4) (hsrst : srstField d = true) :
      HostMove u (.regWrite a d) u.resetBlock
  | nop (a : Addr) (d : Word) (hctrl : regSelect a = 0x0#4) (hsrst : srstField d = false) :
      HostMove u (.regWrite a d) (u.setIe (ieField d))
  | accepted (a : Addr) (d : Word) (body : State → State) (hctrl : regSelect a = 0x0#4) (hsrst : srstField d = false)
      (hcmd : cmdField d ≠ 0#4) (hissued : Issued (ieField d) (decode d) body) (hidle : u.h.fsm = .idle) :
      HostMove u (.regWrite a d) (body (u.setIe (ieField d)).clearEnded)
  | dropped (a : Addr) (d : Word) (hctrl : regSelect a = 0x0#4) (hsrst : srstField d = false) (hcmd : cmdField d ≠ 0#4)
      (hidle : u.h.fsm ≠ .idle) : HostMove u (.regWrite a d) (u.setIe (ieField d)).dropCommand
  | noEffect (a : HostAction) : HostMove u a u
  | clearDrop (a : Addr) (d : Word) (hstatus : regAt a = .status) (hbit : d.getLsbD 9 = true) :
      HostMove u (.regWrite a d) { u with regs.cmdDrop := false }
  | stored (a : Addr) (d : Word) (n : Reg) (hbusy : u.busy = false) :
      HostMove u (.regWrite a d) { u with regs := u.regs.store n d }
  | regRead (a : Addr) : HostMove u (.regRead a) (u.recordRead (u.regRead a))
  | binAppend (x : Token) : HostMove u (.binAppend x) (u.binAppend x)
  | pinAppend (p : Byte) : HostMove u (.pinAppend p) (u.pinAppend p)
  | boutTake (hleft : u.host.boutTaken < u.io.bout.length) :
      HostMove u .boutTake { u with host.boutTaken := u.host.boutTaken + 1 }
  | poutTake (hleft : u.host.poutTaken < u.io.pout.length) :
      HostMove u .poutTake { u with host.poutTaken := u.host.poutTaken + 1 }

/-- A command word is SRST, NOP, or an issued command, accepted or dropped (R200 to R204). -/
theorem hostMove_of_command {u : State} {a : Addr} (hctrl : regSelect a = 0x0#4) (d : Word) :
    ∃ t, exec (decode d) u = .next t ∧ HostMove u (.regWrite a d) t := by
  cases hsrst : srstField d with
  | true => exact ⟨_, by rw [decode_eq_srst hsrst]; rfl, .srst a d hctrl hsrst⟩
  | false =>
    by_cases hcmd : cmdField d = 0#4
    · exact ⟨_, by rw [decode_eq_nop hsrst hcmd, exec_nop], .nop a d hctrl hsrst⟩
    · obtain ⟨body, hissued⟩ := exists_issued_decode hsrst hcmd
      by_cases hidle : u.h.fsm = .idle
      · exact ⟨_, exec_accepted hissued hidle, .accepted a d body hctrl hsrst hcmd hissued hidle⟩
      · exact ⟨_, by rw [exec_issued hissued, issue_dropped hidle], .dropped a d hctrl hsrst hcmd hidle⟩

/-- Every HOST action answers a next state, by one of the moves: no access stalls or faults (R60). -/
theorem hostMove_exists (u : State) (a : HostAction) : ∃ t, hostAct a u = .next t ∧ HostMove u a t := by
  cases a with
  | regWrite a d =>
    rcases regWrite_cases a d u with ⟨hctrl, hexec⟩ | ⟨-, hwrite⟩
    · obtain ⟨t, ht, hmove⟩ := hostMove_of_command (u := u) hctrl d
      exact ⟨t, hexec.trans ht, hmove⟩
    · refine ⟨_, hwrite, ?_⟩
      rcases writeOther_cases u (regAt a) d with hsame | ⟨hstatus, hbit, hclear⟩ | ⟨hbusy, hstore⟩
      · rw [hsame]; exact .noEffect _
      · rw [hclear]; exact .clearDrop a d hstatus hbit
      · rw [hstore]; exact .stored a d (regAt a) hbusy
  | regRead a => exact ⟨_, rfl, .regRead a⟩
  | binAppend x => exact ⟨_, rfl, .binAppend x⟩
  | pinAppend p => exact ⟨_, rfl, .pinAppend p⟩
  | boutTake =>
    refine ⟨_, rfl, ?_⟩
    by_cases hleft : u.host.boutTaken < u.io.bout.length
    · rw [State.boutTake, if_pos hleft]; exact .boutTake hleft
    · rw [State.boutTake, if_neg hleft]; exact .noEffect _
  | poutTake =>
    refine ⟨_, rfl, ?_⟩
    by_cases hleft : u.host.poutTaken < u.io.pout.length
    · rw [State.poutTake, if_pos hleft]; exact .poutTake hleft
    · rw [State.poutTake, if_neg hleft]; exact .noEffect _
  | resetPin => exact ⟨_, rfl, .resetPin⟩

/-! ### The machine's moves -/

/-- The moves of the machine: the HOST's turn, a BLOCK step at a turn that is the BLOCK's, or a turn with no effect. The
agenda `l` is what is left of the turns (R73, R103, R206). -/
inductive StepMove (s : State) : State → Prop
  | host {t : State} (a : HostAction) (rest : List Turn) (hturn : s.host.agenda = .host a :: rest)
      (hmove : HostMove (s.withAgenda rest) a t) : StepMove s t
  | block {t : State} (l : List Turn) (hturn : s.blockNext = true) (hmove : BlockMove (s.withAgenda l) t) : StepMove s t
  | pass (l : List Turn) : StepMove s (s.withAgenda l)

/-- A BLOCK turn is a move of the BLOCK or passes. -/
theorem stepMove_of_blockTurn {s t : State} (l : List Turn) (hturn : s.blockNext = true)
    (ht : blockTurn (s.withAgenda l) = .next t) : StepMove s t := by
  rcases blockTurn_cases (s.withAgenda l) with ⟨-, hnone⟩ | ⟨o, hstep, htake⟩
  · cases hnone.symm.trans ht
    exact .pass l
  · rw [← htake, ht] at hstep
    exact .block l hturn (blockMove_of_blockStep hstep)

/-- Every step that answers a next state is one of the moves (R73). -/
theorem stepMove_of_step {s t : State} (ht : step s = .next t) : StepMove s t := by
  rcases step_cases ht with ⟨a, rest, hturn, hact⟩ | ⟨hturn, hblock⟩ | ⟨rest, hturn, hblock⟩
    | ⟨rest, hturn, hbusy, hblock⟩ | ⟨rest, -, -, hpass⟩
  · obtain ⟨u, hu, hmove⟩ := hostMove_exists (s.withAgenda rest) a
    cases hact.trans hu
    exact .host a rest hturn hmove
  · exact stepMove_of_blockTurn s.host.agenda (by simp [State.blockNext, hturn]) hblock.symm
  · exact stepMove_of_blockTurn rest (by simp [State.blockNext, hturn]) hblock.symm
  · exact stepMove_of_blockTurn s.host.agenda (by simp [State.blockNext, hturn, hbusy]) hblock.symm
  · cases hpass
    exact .pass rest

end Sys2Proof.Machine
end


section
/-! What every move of the BLOCK keeps and how it can end: the fields it leaves alone, the three ends of a step, and what it
does to each stream. -/

namespace Sys2Proof.Machine

/-! ### The fields a BLOCK move leaves alone -/

/-- A BLOCK move writes neither EXTENT_MODE nor the HOST's side. -/
theorem BlockMove.frame {s t : State} (hmove : BlockMove s t) : t.extentMode = s.extentMode ∧ t.host = s.host := by
  cases hmove <;> exact ⟨rfl, rfl⟩

/-- A BLOCK move writes none of IE, CMD_DROP and DP_RESULT (R29, R36, R205). -/
theorem BlockMove.regs_frame {s t : State} (hmove : BlockMove s t) :
    t.regs.ie = s.regs.ie ∧ t.regs.cmdDrop = s.regs.cmdDrop ∧ t.regs.dpResult = s.regs.dpResult := by
  cases hmove <;> exact ⟨rfl, rfl, rfl⟩

/-- PAY_LEN is written by the step that takes the eighth geometry byte alone, to the length of a window (R37, R148). -/
theorem BlockMove.payLen {s t : State} (hmove : BlockMove s t) :
    t.regs.payLen = s.regs.payLen
      ∨ s.h.fsm = .decGeom ∧ s.h.idx = 7 ∧ t.h.idx = 8
        ∧ ∃ m x0 y0 w ht, t.regs.payLen = payLenOf (scanWindow m x0 y0 w ht) := by
  cases hmove with
  | decGeomEmpty _ _ _ _ _ _ _ _ hfsm _ hidx hv => exact .inr ⟨hfsm, hidx, rfl, _, _, _, _, _, congrArg payLenOf hv⟩
  | decGeomLast _ _ _ _ _ _ _ _ hfsm _ hidx hv => exact .inr ⟨hfsm, hidx, rfl, _, _, _, _, _, congrArg payLenOf hv⟩
  | _ => exact .inl rfl

/-! ### How a BLOCK move ends -/

/-- A BLOCK move belongs to a command in progress (R206, R207). -/
theorem BlockMove.busy {s t : State} (hmove : BlockMove s t) : s.busy = true := by
  rw [busy_iff]
  cases hmove with
  | truncated _ hfsm => rcases hfsm with hfsm | hfsm | hfsm <;> simp [hfsm]
  | _ => simp [*]

/-- A BLOCK move leaves the command in progress, its flags unset as they were; or completes it, with EOS at the clean end of
the stream only; or fails it (R41, R206, R225). -/
theorem BlockMove.ends {s t : State} (hmove : BlockMove s t) :
    (t.busy = true ∧ t.regs.err = s.regs.err ∧ t.regs.done = s.regs.done ∧ t.regs.eos = s.regs.eos)
      ∨ (t.h.fsm = .idle ∧ t.regs.err = s.regs.err ∧ t.regs.done = true
        ∧ (t.regs.eos = s.regs.eos ∨ s.h.fsm = .decGeom ∧ t.regs.eos = true))
      ∨ (t.h.fsm = .error ∧ t.regs.err ≠ .none ∧ t.regs.done = s.regs.done ∧ t.regs.eos = s.regs.eos) := by
  cases hmove with
  | encHdrByte | encGeomByte | encGeomLast | encPixCol | encPixRow | decHdrByte | decGeomByte | decGeomLast | decPixCol
  | decPixRow => exact .inl ⟨rfl, rfl, rfl, rfl⟩
  | encHdrLast | encGeomEmpty | encPixLast | decHdrLast | decGeomEmpty | decPixLast =>
    exact .inr (.inl ⟨rfl, rfl, rfl, .inl rfl⟩)
  | decGeomEnd _ hfsm => exact .inr (.inl ⟨rfl, rfl, rfl, .inr ⟨hfsm, rfl⟩⟩)
  | decHdrRejected | truncated => exact .inr (.inr ⟨rfl, nofun, rfl, rfl⟩)

/-! ### What a BLOCK move does to the streams -/

/-- An encode phase may append a byte to BOUT; nothing else touches it (R66, R122, R143, R145). -/
theorem BlockMove.bout {s t : State} (hmove : BlockMove s t) :
    t.io.bout = s.io.bout
      ∨ (∃ b, t.io.bout = s.io.bout ++ [b]) ∧ (s.h.fsm = .encHdr ∨ s.h.fsm = .encGeom ∨ s.h.fsm = .encPix) := by
  cases hmove with
  | encHdrByte _ hfsm | encHdrLast _ hfsm => exact .inr ⟨⟨_, rfl⟩, .inl hfsm⟩
  | encGeomByte _ hfsm | encGeomEmpty _ hfsm | encGeomLast _ hfsm => exact .inr ⟨⟨_, rfl⟩, .inr (.inl hfsm)⟩
  | encPixCol _ _ _ _ hfsm _ hbout | encPixRow _ _ _ _ hfsm _ hbout | encPixLast _ _ _ _ hfsm _ hbout =>
    exact hbout.imp id fun hb => ⟨hb, .inr (.inr hfsm)⟩
  | _ => exact .inl rfl

/-- DEC_PIX appends the two pixels of a byte to POUT, at the scan's place and beside it; nothing else touches it (R67,
R152). -/
theorem BlockMove.pout {s t : State} (hmove : BlockMove s t) :
    t.io.pout = s.io.pout
      ∨ s.h.fsm = .decPix ∧ ∃ vl vr, t.io.pout
        = s.io.pout ++ [{ x := s.h.dx, y := s.h.dy, v := vl }, { x := s.h.dx + 1, y := s.h.dy, v := vr }] := by
  cases hmove with
  | decPixCol _ _ _ _ hfsm | decPixRow _ _ _ _ hfsm | decPixLast _ _ _ _ hfsm => exact .inr ⟨hfsm, _, _, rfl⟩
  | _ => exact .inl rfl

/-- A decode phase takes the head of BIN; nothing else touches it (R64). -/
theorem BlockMove.bin {s t : State} (hmove : BlockMove s t) :
    t.io.bin = s.io.bin
      ∨ (∃ x, s.io.bin = x :: t.io.bin) ∧ (s.h.fsm = .decHdr ∨ s.h.fsm = .decGeom ∨ s.h.fsm = .decPix) := by
  cases hmove with
  | decHdrByte _ _ _ hfsm hbin | decHdrLast _ _ _ _ _ _ hfsm hbin | decHdrRejected _ _ _ _ _ _ hfsm hbin =>
    exact .inr ⟨⟨_, hbin⟩, .inl hfsm⟩
  | decGeomByte _ _ _ hfsm hbin | decGeomEmpty _ _ _ _ _ _ _ _ hfsm hbin | decGeomLast _ _ _ _ _ _ _ _ hfsm hbin
  | decGeomEnd _ hfsm hbin => exact .inr ⟨⟨_, hbin⟩, .inr (.inl hfsm)⟩
  | decPixCol _ _ _ _ hfsm hbin | decPixRow _ _ _ _ hfsm hbin | decPixLast _ _ _ _ hfsm hbin =>
    exact .inr ⟨⟨_, hbin⟩, .inr (.inr hfsm)⟩
  | truncated _ hfsm hbin => exact .inr ⟨⟨_, hbin⟩, hfsm⟩
  | _ => exact .inl rfl

/-- ENC_PIX takes the head of PIN; nothing else touches it (R65). -/
theorem BlockMove.pin {s t : State} (hmove : BlockMove s t) :
    t.io.pin = s.io.pin ∨ (∃ p, s.io.pin = p :: t.io.pin) ∧ s.h.fsm = .encPix := by
  cases hmove with
  | encPixCol _ _ _ _ hfsm hpin | encPixRow _ _ _ _ hfsm hpin | encPixLast _ _ _ _ hfsm hpin =>
    exact .inr ⟨⟨_, hpin⟩, hfsm⟩
  | _ => exact .inl rfl

end Sys2Proof.Machine
end


section
/-! The invariant is inductive: reset meets it and every move keeps it; and what it gives, that no step faults and that no
stored sum wraps (spec/10_state.md R26, R28, R36, R37, R40). -/

namespace Sys2Proof.Machine

/-- Settles O39: reset is IDLE without an error, with nothing read and nothing to read. -/
theorem resetMeetsTheInvariant : Obligations.ResetMeetsTheInvariant :=
  Inv.of_idle rfl rfl nofun (by decide) ⟨by decide, by decide⟩ ⟨Nat.le_refl 0, Nat.le_refl 0⟩

/-- The agenda is no part of the invariant. -/
theorem inv_withAgenda {s : State} (l : List Turn) : (s.withAgenda l).Inv ↔ s.Inv := Iff.rfl

/-! ### The BLOCK keeps it -/

/-- A BLOCK move keeps PAY_LEN within its largest value and DP_RESULT as it is (R36, R37). -/
theorem BlockMove.resultInv {s t : State} (hmove : BlockMove s t) (hinv : ResultInv s) : ResultInv t := by
  obtain ⟨-, -, hdp⟩ := hmove.regs_frame
  refine ⟨?_, by rw [hdp]; exact hinv.2⟩
  rcases hmove.payLen with hpay | ⟨-, -, -, m, x0, y0, w, ht, hpay⟩
  · rw [hpay]; exact hinv.1
  · rw [hpay, payLenOf_toNat]; exact payload_le m x0 y0 w ht

/-- BOUT and POUT only grow under a BLOCK move, and what the HOST has read of them stays. -/
theorem BlockMove.takenInv {s t : State} (hmove : BlockMove s t) (hinv : TakenInv s) : TakenInv t := by
  obtain ⟨-, hhost⟩ := hmove.frame
  obtain ⟨hb, hp⟩ := hinv
  refine ⟨?_, ?_⟩ <;> rw [hhost]
  · rcases hmove.bout with hbout | ⟨⟨b, hbout⟩, -⟩ <;> simp [hbout] <;> omega
  · rcases hmove.pout with hpout | ⟨-, vl, vr, hpout⟩ <;> simp [hpout] <;> omega

/-- The index moves on by one below its largest value. -/
theorem idx_add_one_toNat {i : BitVec 4} {n : Nat} (hi : i.toNat < n) (hn : n ≤ 15) : (i + 1).toNat = i.toNat + 1 := by
  bv_omega

/-- A column, row or coordinate below another number of its width moves on by one exactly. -/
theorem toNat_add_one_of_lt {n : Nat} {a b : BitVec n} (hab : a.toNat < b.toNat) : (a + 1).toNat = a.toNat + 1 := by
  have hb := b.isLt
  have hone : (1 : BitVec n) = BitVec.ofNat n 1 := rfl
  rw [hone, BitVec.toNat_add, BitVec.toNat_ofNat, Nat.add_mod_mod, Nat.mod_eq_of_lt (by omega)]

/-- A number below `b` whose successor is not `b` has its successor below `b`. -/
theorem add_one_lt_of_ne {n : Nat} {a b : BitVec n} (hab : a.toNat < b.toNat) (hne : a + 1 ≠ b) :
    (a + 1).toNat < b.toNat := by
  have hsum := toNat_add_one_of_lt hab
  have hne' : (a + 1).toNat ≠ b.toNat := fun h => hne (BitVec.eq_of_toNat_eq h)
  omega

/-- While DEC_PIX runs, the window's end leaves room for one more column pair in 17 bits (R152). -/
theorem dx_add_two_toNat {s : State} (hinv : DecodeInv s) (hfsm : s.h.fsm = .decPix) :
    (s.h.dx + 2).toNat = s.h.dx.toNat + 2 := by
  obtain ⟨hxs, hxe, -, -, -, hlt, -⟩ := hinv hfsm
  have hle := scanWindow_xe_le s.extentMode s.regs.x0 s.regs.y0 s.regs.w s.regs.ht
  have hx0 := s.regs.x0.isLt
  rw [scanWindow_xs_toNat] at hle
  have hend : s.h.xe.toNat ≤ s.regs.x0.toNat + 65535 := by rw [hxe]; exact hle
  bv_omega

/-- After the eighth geometry byte the scan stands at the start of a window that is not empty (R148, R150). -/
theorem decodeInv_of_startScan {t : State} (hwindow : t.window = scanWindow t.extentMode t.regs.x0 t.regs.y0 t.regs.w t.regs.ht)
    (hpay : payLenOf t.window ≠ 0) (hreg : t.regs.payLen = payLenOf t.window) (hxs : t.h.xs = t.window.xs)
    (hxe : t.h.xe = t.window.xe) (hye : t.h.ye = t.window.ye) (hdx : t.h.dx = t.window.xs) (hdy : t.h.dy = t.window.ys) :
    DecodeInv t := by
  intro _
  obtain ⟨hcols, hrows⟩ := window_nonempty_of_payLen (hwindow ▸ hpay)
  rw [← hwindow, bytesPerRow_eq] at hcols
  rw [← hwindow, windowRows_eq] at hrows
  rw [hxs, hxe, hye, hdx, hdy]
  exact ⟨rfl, rfl, rfl, hreg, Nat.le_refl _, by omega, by omega, Nat.le_refl _, by omega⟩

/-- Every BLOCK move keeps the invariant: the phase it leaves has what `Inv.of_…` asks of that phase. -/
theorem BlockMove.inv {s t : State} (hmove : BlockMove s t) (hinv : s.Inv) : t.Inv := by
  have hquiet : Quiet s := Inv.flags_of_busy hinv hmove.busy
  obtain ⟨herr, hdone, heos⟩ := id hquiet
  obtain ⟨-, ⟨hidx9, -, -⟩, ⟨himage, hstart, hscan⟩, hdec, hres, htaken⟩ := hinv
  have hr := hmove.resultInv hres
  have hk := hmove.takenInv htaken
  have hnext {n : Nat} (hn : n ≤ 8) (hidx : s.h.idx.toNat < n) : (s.h.idx + 1).toNat < n + 1 := by
    have := idx_add_one_toNat hidx (by omega)
    omega
  cases hmove with
  | encHdrByte b hfsm hidx => exact Inv.of_header (.inl rfl) hquiet (hnext (by decide) hidx) hr hk
  | encHdrLast b hfsm hidx => exact Inv.of_idle rfl herr (fun _ => rfl) (by simp [hidx]) hr hk
  | encGeomByte b hfsm hidx =>
    exact Inv.of_encGeom rfl hquiet (hnext (by decide) hidx) (himage (.inl hfsm)) (hstart hfsm) hr hk
  | encGeomEmpty b hfsm hidx => exact Inv.of_idle rfl herr (fun _ => rfl) (by simp [hidx]) hr hk
  | encGeomLast b hfsm hidx hw hht =>
    obtain ⟨hcol, hrow⟩ := hstart hfsm
    have hcol0 : s.h.col.toNat < s.regs.w.toNat := by
      rw [hcol]; exact Nat.pos_of_ne_zero fun h => hw (BitVec.eq_of_toNat_eq h)
    have hrow0 : s.h.row.toNat < s.regs.ht.toNat := by
      rw [hrow]; exact Nat.pos_of_ne_zero fun h => hht (BitVec.eq_of_toNat_eq h)
    exact Inv.of_encPix rfl hquiet (by simp [hidx]) (himage (.inl hfsm)) ⟨hcol0, hrow0⟩ hr hk
  | encPixCol p rest bout hold hfsm hpin hbout hcol =>
    obtain ⟨hc, hrw⟩ := hscan hfsm
    exact Inv.of_encPix rfl hquiet hidx9 (himage (.inr hfsm)) ⟨add_one_lt_of_ne hc hcol, hrw⟩ hr hk
  | encPixRow p rest bout hold hfsm hpin hbout hcol hrow =>
    obtain ⟨hc, hrw⟩ := hscan hfsm
    exact Inv.of_encPix rfl hquiet hidx9 (himage (.inr hfsm)) ⟨Nat.zero_lt_of_lt hc, add_one_lt_of_ne hrw hrow⟩ hr hk
  | encPixLast => exact Inv.of_idle rfl herr (fun _ => rfl) hidx9 hr hk
  | decHdrByte b rest buf hfsm hbin hidx => exact Inv.of_header (.inr rfl) hquiet (hnext (by decide) hidx) hr hk
  | decHdrLast => exact Inv.of_idle rfl herr (fun _ => rfl) (Nat.le_refl 9) hr hk
  | decHdrRejected => exact Inv.of_error rfl nofun hdone heos (Nat.le_refl 9) hr hk
  | decGeomByte b rest buf hfsm hbin hidx => exact Inv.of_decGeom rfl hquiet (hnext (by decide) hidx) hr hk
  | decGeomEmpty => exact Inv.of_idle rfl herr (fun _ => rfl) (by simp) hr hk
  | decGeomLast b rest buf x0 y0 w ht v hfsm hbin hidx hv hpay =>
    subst hv
    exact Inv.of_decPix rfl hquiet (by simp) (decodeInv_of_startScan rfl hpay rfl rfl rfl rfl rfl rfl) hr hk
  | decGeomEnd => exact Inv.of_idle rfl herr (fun _ => rfl) hidx9 hr hk
  | decPixCol b rest vl vr hfsm hbin hcol =>
    have hdx := dx_add_two_toNat hdec hfsm
    obtain ⟨hxs, hxe, hye, hpay, hle, hlt, heven, hys, hdy⟩ := hdec hfsm
    rw [BitVec.le_def, hdx] at hcol
    have hnext : s.h.xs.toNat ≤ (s.h.dx + 2).toNat ∧ (s.h.dx + 2).toNat < s.h.xe.toNat
        ∧ ((s.h.dx + 2).toNat - s.h.xs.toNat) % 2 = 0 := by omega
    obtain ⟨hle', hlt', heven'⟩ := hnext
    exact Inv.of_decPix rfl hquiet hidx9 (fun _ => ⟨hxs, hxe, hye, hpay, hle', hlt', heven', hys, hdy⟩) hr hk
  | decPixRow b rest vl vr hfsm hbin hcol hrow =>
    obtain ⟨hxs, hxe, hye, hpay, hle, hlt, heven, hys, hdy⟩ := hdec hfsm
    have hdy1 := toNat_add_one_of_lt hdy
    rw [BitVec.le_def] at hrow
    have hnext : s.h.xs.toNat < s.h.xe.toNat ∧ (s.h.xs.toNat - s.h.xs.toNat) % 2 = 0
        ∧ s.window.ys.toNat ≤ (s.h.dy + 1).toNat ∧ (s.h.dy + 1).toNat < s.h.ye.toNat := by omega
    obtain ⟨hlt', heven', hys', hdy'⟩ := hnext
    exact Inv.of_decPix rfl hquiet hidx9
      (fun _ => ⟨hxs, hxe, hye, hpay, Nat.le_refl _, hlt', heven', hys', hdy'⟩) hr hk
  | decPixLast => exact Inv.of_idle rfl herr (fun _ => rfl) hidx9 hr hk
  | truncated => exact Inv.of_error rfl nofun hdone heos hidx9 hr hk

/-! ### The HOST keeps it -/

/-- In IDLE the invariant leaves no error. -/
theorem err_none_of_idle {s : State} (hinv : s.Inv) (hidle : s.h.fsm = .idle) : s.regs.err = .none := by
  obtain ⟨⟨herr, -⟩, -⟩ := hinv
  by_contra hne
  rw [herr.mp hne] at hidle
  cases hidle

/-- Right after acceptance no flag and no error is set, and the phase is still IDLE (R202). -/
theorem quiet_clearEnded {s : State} (hinv : s.Inv) (hidle : s.h.fsm = .idle) (ie : Bool) :
    Quiet (s.setIe ie).clearEnded :=
  ⟨(err_none_of_idle hinv hidle : s.regs.err = .none), rfl, rfl⟩

/-- ENC_RECORD either fails with a code or starts a legal image (R142). -/
theorem encRecordBody_cases (s : State) :
    (∃ code, code ≠ .none ∧ encRecordBody s = s.raiseError code)
      ∨ s.regs.w.toNat ≤ 960 ∧ s.regs.ht.toNat ≤ 540 ∧ s.regs.w.toNat % 2 = 0 ∧ encRecordBody s = s.startRecord := by
  by_cases hsize : s.regs.w.toNat > 960 ∨ s.regs.ht.toNat > 540
  · exact .inl ⟨.dimensionTooLarge, nofun, encRecordBody_too_large hsize⟩
  · obtain ⟨hw, hht⟩ := not_or.mp hsize
    rw [Nat.not_lt] at hw hht
    rcases Nat.mod_two_eq_zero_or_one s.regs.w.toNat with heven | hodd
    · exact .inr ⟨hw, hht, heven, encRecordBody_legal hw hht heven⟩
    · exact .inl ⟨.invalidGeometry, nofun, encRecordBody_odd hw hht hodd⟩

/-- A command accepted in IDLE keeps the invariant, whichever it is (R202). -/
theorem inv_accepted {s : State} {ie : Bool} {i : Instr} {body : State → State} (hissued : Issued ie i body)
    (hidle : s.h.fsm = .idle) (hinv : s.Inv) : (body (s.setIe ie).clearEnded).Inv := by
  have hquiet := quiet_clearEnded hinv hidle ie
  obtain ⟨-, ⟨hidx, -, -⟩, -, -, hres, htaken⟩ := hinv
  obtain ⟨hpay, hdp⟩ := hres
  cases hissued with
  | pack =>
    refine Inv.of_idle rfl hquiet.1 (fun _ => rfl) hidx ⟨hpay, ?_⟩ htaken
    have hlt := (pack s.regs.pe s.regs.po).isLt
    have hval := BitVec.toNat_setWidth_of_le (b := pack s.regs.pe s.regs.po) (show 8 ≤ 32 by decide)
    exact lt_of_eq_of_lt hval (Nat.lt_trans hlt (by decide))
  | unpack =>
    refine Inv.of_idle rfl hquiet.1 (fun _ => rfl) hidx ⟨hpay, ?_⟩ htaken
    have hlt := (unpackRight s.regs.pe ++ unpackLeft s.regs.pe).isLt
    have hval := BitVec.toNat_setWidth_of_le (b := unpackRight s.regs.pe ++ unpackLeft s.regs.pe) (show 16 ≤ 32 by decide)
    exact lt_of_eq_of_lt hval hlt
  | encHeader => exact Inv.of_header (.inl rfl) hquiet (Nat.zero_lt_succ 8) ⟨hpay, hdp⟩ htaken
  | decHeader => exact Inv.of_header (.inr rfl) hquiet (Nat.zero_lt_succ 8) ⟨hpay, hdp⟩ htaken
  | decRecord => exact Inv.of_decGeom rfl hquiet (Nat.zero_lt_succ 7) ⟨hpay, hdp⟩ htaken
  | reserved _ => exact Inv.of_error rfl nofun hquiet.2.1 hquiet.2.2 hidx ⟨hpay, hdp⟩ htaken
  | encRecord =>
    rcases encRecordBody_cases (s.setIe ie).clearEnded with ⟨code, hcode, hraise⟩ | ⟨hw, hht, heven, hstart⟩
    · rw [hraise]
      exact Inv.of_error rfl hcode hquiet.2.1 hquiet.2.2 hidx ⟨hpay, hdp⟩ htaken
    · rw [hstart]
      have hexact := startRecord_payLen_toNat hw hht
      have hle := legalImage_payLen_le hw hht
      exact Inv.of_encGeom rfl hquiet (Nat.zero_lt_succ 7) ⟨hw, hht, heven, hexact⟩ ⟨rfl, rfl⟩
        ⟨by rw [hexact]; omega, hdp⟩ htaken

/-- A store into a data register writes no flag, no error code and no read-only register (R62). -/
theorem store_frame (r : Regs) (n : Reg) (d : Word) :
    (r.store n d).ie = r.ie ∧ (r.store n d).err = r.err ∧ (r.store n d).eos = r.eos ∧ (r.store n d).done = r.done
      ∧ (r.store n d).cmdDrop = r.cmdDrop ∧ (r.store n d).dpResult = r.dpResult ∧ (r.store n d).payLen = r.payLen := by
  cases n <;> exact ⟨rfl, rfl, rfl, rfl, rfl, rfl, rfl⟩

/-- While no command is in progress, the invariant asks nothing of the data registers, so a store keeps it (R62). -/
theorem inv_store {s : State} (hbusy : s.busy = false) (hinv : s.Inv) (n : Reg) (d : Word) :
    State.Inv { s with regs := s.regs.store n d } := by
  obtain ⟨-, herr, heos, hdone, -, hdp, hpay⟩ := store_frame s.regs n d
  obtain ⟨⟨hf1, hf2, hf3⟩, ⟨hidx, -, -⟩, -, -, ⟨hr1, hr2⟩, htaken⟩ := hinv
  have hres : ResultInv { s with regs := s.regs.store n d } := ⟨by rw [hpay]; exact hr1, by rw [hdp]; exact hr2⟩
  rcases Classical.em (s.h.fsm = .error) with hfail | hfail
  · have hnot : s.regs.done = false := by
      by_contra hd
      rw [hf3 (by simpa using hd)] at hfail
      cases hfail
    refine Inv.of_error hfail ?_ (hdone.trans hnot) ?_ hidx hres htaken
    · rw [herr]; exact hf1.mpr hfail
    · rw [heos]
      by_contra he
      rw [hf2 (by simpa using he)] at hnot
      cases hnot
  · have hidle : s.h.fsm = .idle := by
      by_contra hi
      rw [busy_iff.mpr ⟨hi, hfail⟩] at hbusy
      cases hbusy
    refine Inv.of_idle hidle ?_ ?_ hidx hres htaken
    · rw [herr]
      by_contra he
      exact hfail (hf1.mp he)
    · rw [heos, hdone]; exact hf2

/-- Every HOST move keeps the invariant. -/
theorem HostMove.inv {u t : State} {a : HostAction} (hmove : HostMove u a t) (hinv : u.Inv) : t.Inv := by
  cases hmove with
  | resetPin | srst =>
    obtain ⟨hflags, hindex, henc, -, hres, -⟩ := resetMeetsTheInvariant
    exact ⟨hflags, hindex, henc, nofun, hres, hinv.2.2.2.2.2⟩
  | accepted a d body hctrl hsrst hcmd hissued hidle => exact inv_accepted hissued hidle hinv
  | stored a d n hbusy => exact inv_store hbusy hinv n d
  | nop | dropped | noEffect | clearDrop | regRead | binAppend | pinAppend => exact hinv
  | boutTake hleft =>
    obtain ⟨hflags, hindex, henc, hdec, hres, -, hpout⟩ := hinv
    exact ⟨hflags, hindex, henc, hdec, hres, hleft, hpout⟩
  | poutTake hleft =>
    obtain ⟨hflags, hindex, henc, hdec, hres, hbout, -⟩ := hinv
    exact ⟨hflags, hindex, henc, hdec, hres, hbout, hleft⟩

/-- Settles O40: the moves of the BLOCK and of the HOST each keep the invariant, and no turn is part of it. -/
theorem everyStepKeepsTheInvariant : Obligations.EveryStepKeepsTheInvariant := by
  intro s t hinv hstep
  cases stepMove_of_step hstep with
  | host a rest hturn hmove => exact hmove.inv ((inv_withAgenda rest).mpr hinv)
  | block l hturn hmove => exact hmove.inv ((inv_withAgenda l).mpr hinv)
  | pass l => exact (inv_withAgenda l).mpr hinv

/-! ### What the invariant gives -/

/-- With the index inside its record no BLOCK step faults (log 6). -/
theorem blockStep_next_of_index {s : State} {o : Host.Outcome State Fault Refusal} (hinv : IndexInv s)
    (ho : blockStep s = some o) : ∃ t, o = .next t := by
  obtain ⟨-, hheader, hgeom⟩ := hinv
  rcases blockStep_cases ho with ⟨hfsm, -⟩ | ⟨hfsm, -⟩ | ⟨hfsm, p, rest, hpin, rfl⟩
    | ⟨hfsm, rest, ⟨b, hbin, rfl⟩ | ⟨hbin, rfl⟩⟩ | ⟨hfsm, rest, ⟨b, hbin, rfl⟩ | ⟨hbin, rfl⟩⟩
    | ⟨hfsm, rest, ⟨b, hbin, rfl⟩ | ⟨hbin, rfl⟩⟩
  · obtain ⟨b, -, hstep⟩ := encHdrStep s hfsm (hheader (.inl hfsm))
    exact ⟨_, Option.some.inj (ho.symm.trans hstep)⟩
  · obtain ⟨b, -, hstep⟩ := encGeomStep s hfsm (hgeom (.inl hfsm))
    exact ⟨_, Option.some.inj (ho.symm.trans hstep)⟩
  · exact ⟨_, rfl⟩
  · exact ⟨_, by rw [stepDecHdrByte, storeByte_of_lt (s := { s with io.bin := rest }) (hheader (.inr hfsm))]⟩
  · exact ⟨_, rfl⟩
  · exact ⟨_, by rw [stepDecGeomByte, storeByte_of_lt (s := { s with io.bin := rest }) (hgeom (.inr hfsm))]⟩
  · unfold stepDecGeomEnd
    split
    exacts [⟨_, rfl⟩, ⟨_, rfl⟩]
  · exact ⟨_, rfl⟩
  · exact ⟨_, rfl⟩

/-- So the BLOCK's turn answers a next state. -/
theorem blockTurn_next {s : State} (hinv : s.Inv) : ∃ t, blockTurn s = .next t := by
  obtain ⟨-, hindex, -⟩ := hinv
  rcases blockTurn_cases s with ⟨-, hnone⟩ | ⟨o, hstep, hturn⟩
  · exact ⟨s, hnone⟩
  · obtain ⟨t, rfl⟩ := blockStep_next_of_index hindex hstep
    exact ⟨t, hturn⟩

/-- Settles O41: a HOST action always answers a next state, and under the invariant so does the BLOCK. -/
theorem noStepFaultsOrRefuses : Obligations.NoStepFaultsOrRefuses := by
  intro s hinv
  rcases step_cases (rfl : step s = step s) with ⟨a, rest, -, hact⟩ | ⟨-, hblock⟩ | ⟨rest, -, hblock⟩
    | ⟨rest, -, -, hblock⟩ | ⟨rest, -, -, hpass⟩
  · obtain ⟨t, ht, -⟩ := hostMove_exists (s.withAgenda rest) a
    exact ⟨t, hact.trans ht⟩
  · rw [hblock]; exact blockTurn_next hinv
  · rw [hblock]; exact blockTurn_next ((inv_withAgenda rest).mpr hinv)
  · rw [hblock]; exact blockTurn_next hinv
  · exact ⟨_, hpass⟩

/-- Settles O57: each stored sum is one below a bound of the invariant that its width holds. -/
theorem storedSumsDoNotWrap : Obligations.StoredSumsDoNotWrap := by
  rintro s ⟨-, ⟨hidx, -, -⟩, ⟨-, -, hscan⟩, hdec, -, -⟩
  refine ⟨idx_add_one_toNat (Nat.lt_succ_of_le hidx) (by decide), fun hfsm => ?_, fun hfsm => ?_⟩
  · obtain ⟨hcol, hrow⟩ := hscan hfsm
    exact ⟨toNat_add_one_of_lt hcol, toNat_add_one_of_lt hrow⟩
  · obtain ⟨-, -, -, -, -, hdx, -, -, hdy⟩ := hdec hfsm
    exact ⟨toNat_add_one_of_lt hdx, dx_add_two_toNat hdec hfsm, by omega, toNat_add_one_of_lt hdy⟩

end Sys2Proof.Machine
end


section
/-! A command takes a bounded number of BLOCK steps: the measure `stepsLeft` falls with each of them, and it is 0 exactly
when no command is in progress (spec/70_reset_and_hazards.md R266, R267). -/

namespace Sys2Proof.Machine

/-! ### The measure phase by phase -/

/-- What is left of a header emission. -/
theorem stepsLeft_encHdr {s : State} (hfsm : s.h.fsm = .encHdr) : s.stepsLeft = 9 - s.h.idx.toNat := by
  rw [State.stepsLeft, hfsm]

/-- What is left of a descriptor emission, and the pixels after it. -/
theorem stepsLeft_encGeom {s : State} (hfsm : s.h.fsm = .encGeom) :
    s.stepsLeft = 8 - s.h.idx.toNat + s.regs.w.toNat * s.regs.ht.toNat := by
  rw [State.stepsLeft, hfsm]

/-- What is left of an image: all its pixels but those the scan has passed. -/
theorem stepsLeft_encPix {s : State} (hfsm : s.h.fsm = .encPix) :
    s.stepsLeft = s.regs.w.toNat * s.regs.ht.toNat - (s.h.row.toNat * s.regs.w.toNat + s.h.col.toNat) := by
  rw [State.stepsLeft, hfsm]

/-- What is left of a header to read. -/
theorem stepsLeft_decHdr {s : State} (hfsm : s.h.fsm = .decHdr) : s.stepsLeft = 9 - s.h.idx.toNat := by
  rw [State.stepsLeft, hfsm]

/-- What is left of a descriptor to read, and the largest payload after it. -/
theorem stepsLeft_decGeom {s : State} (hfsm : s.h.fsm = .decGeom) : s.stepsLeft = 8 - s.h.idx.toNat + 0x7FFF8000 := by
  rw [State.stepsLeft, hfsm]

/-- What is left of a payload: the bytes of the rows from the scan's on, but those the scan has passed in its row. -/
theorem stepsLeft_decPix {s : State} (hfsm : s.h.fsm = .decPix) :
    s.stepsLeft = (s.h.xe.toNat - s.h.xs.toNat + 1) / 2 * (s.h.ye.toNat - s.h.dy.toNat)
      - (s.h.dx.toNat - s.h.xs.toNat) / 2 := by
  rw [State.stepsLeft, hfsm]
  rfl

/-- Nothing is left when no command is in progress. -/
theorem stepsLeft_of_not_busy {s : State} (hbusy : s.busy = false) : s.stepsLeft = 0 := by
  rw [State.stepsLeft]
  cases hfsm : s.h.fsm with
  | idle | error => rfl
  | _ => simp [State.busy, hfsm] at hbusy

/-! ### The scan as a number -/

/-- A place inside an image, counted in row-major order, is below the number of its pixels. -/
theorem rowMajor_lt {row col w ht : Nat} (hcol : col < w) (hrow : row < ht) : row * w + col < w * ht :=
  calc row * w + col < row * w + w := Nat.add_lt_add_left hcol _
    _ = (row + 1) * w := (Nat.succ_mul row w).symm
    _ ≤ ht * w := Nat.mul_le_mul_right w hrow
    _ = w * ht := Nat.mul_comm ht w

/-- A byte of a row is below the number of bytes of that row and the ones after it. -/
theorem byteInRow_lt {dx xe n rows : Nat} (hdx : dx < xe) (hn : n = (xe + 1) / 2) (hrows : 0 < rows) :
    dx / 2 < n * rows :=
  calc dx / 2 < n := by omega
    _ ≤ n * rows := Nat.le_mul_of_pos_right n hrows

/-- While a command is in progress there is a step left, in every phase (R267). -/
theorem stepsLeft_pos_of_busy {s : State} (hinv : s.Inv) (hbusy : s.busy = true) : 0 < s.stepsLeft := by
  obtain ⟨-, ⟨-, hheader, hgeom⟩, ⟨-, -, hscan⟩, hdec, -, -⟩ := hinv
  cases hfsm : s.h.fsm with
  | idle | error => simp [State.busy, hfsm] at hbusy
  | encHdr =>
    have hidx := hheader (.inl hfsm)
    rw [stepsLeft_encHdr hfsm]
    omega
  | encGeom =>
    have hidx := hgeom (.inl hfsm)
    rw [stepsLeft_encGeom hfsm]
    omega
  | encPix =>
    obtain ⟨hcol, hrow⟩ := hscan hfsm
    rw [stepsLeft_encPix hfsm]
    exact Nat.sub_pos_of_lt (rowMajor_lt hcol hrow)
  | decHdr =>
    have hidx := hheader (.inr hfsm)
    rw [stepsLeft_decHdr hfsm]
    omega
  | decGeom =>
    rw [stepsLeft_decGeom hfsm]
    omega
  | decPix =>
    obtain ⟨-, -, -, -, hle, hdx, -, -, hdy⟩ := hdec hfsm
    rw [stepsLeft_decPix hfsm]
    exact Nat.sub_pos_of_lt (byteInRow_lt (Nat.sub_lt_sub_right hle hdx) rfl (Nat.sub_pos_of_lt hdy))

/-! ### It falls -/

/-- Each BLOCK move brings the measure down: the index, the pixel or the payload byte it passes was still to come. -/
theorem BlockMove.stepsLeft_lt {s t : State} (hmove : BlockMove s t) (hinv : s.Inv) : t.stepsLeft < s.stepsLeft := by
  have hpos := stepsLeft_pos_of_busy hinv hmove.busy
  obtain ⟨-, -, ⟨-, -, hscan⟩, hdec, -, -⟩ := hinv
  cases hmove with
  | encHdrLast | encGeomEmpty | encPixLast | decHdrLast | decHdrRejected | decGeomEmpty | decGeomEnd | decPixLast
  | truncated => exact hpos
  | encHdrByte b hfsm hidx =>
    have hnext := idx_add_one_toNat hidx (by decide)
    rw [stepsLeft_encHdr hfsm, stepsLeft_encHdr rfl]
    dsimp only
    omega
  | encGeomByte b hfsm hidx =>
    have hnext := idx_add_one_toNat hidx (by decide)
    rw [stepsLeft_encGeom hfsm, stepsLeft_encGeom rfl]
    dsimp only
    omega
  | encGeomLast b hfsm hidx hw hht =>
    have h7 : s.h.idx.toNat = 7 := by rw [hidx]; rfl
    rw [stepsLeft_encGeom hfsm, stepsLeft_encPix rfl, h7]
    dsimp only
    omega
  | encPixCol p rest bout hold hfsm hpin hbout hcol =>
    obtain ⟨hc, hr⟩ := hscan hfsm
    have hlt := rowMajor_lt hc hr
    rw [stepsLeft_encPix hfsm, stepsLeft_encPix rfl]
    dsimp only
    rw [toNat_add_one_of_lt hc]
    omega
  | encPixRow p rest bout hold hfsm hpin hbout hcol hrow =>
    obtain ⟨hc, hr⟩ := hscan hfsm
    have hlt := rowMajor_lt hc hr
    have hwidth : s.regs.w.toNat = s.h.col.toNat + 1 := by rw [← hcol, toNat_add_one_of_lt hc]
    have hrows : (s.h.row.toNat + 1) * s.regs.w.toNat = s.h.row.toNat * s.regs.w.toNat + s.regs.w.toNat :=
      Nat.succ_mul _ _
    rw [stepsLeft_encPix hfsm, stepsLeft_encPix rfl]
    dsimp only
    rw [toNat_add_one_of_lt hr, hrows]
    omega
  | decHdrByte b rest buf hfsm hbin hidx =>
    have hnext := idx_add_one_toNat hidx (by decide)
    rw [stepsLeft_decHdr hfsm, stepsLeft_decHdr rfl]
    dsimp only
    omega
  | decGeomByte b rest buf hfsm hbin hidx =>
    have hnext := idx_add_one_toNat hidx (by decide)
    rw [stepsLeft_decGeom hfsm, stepsLeft_decGeom rfl]
    dsimp only
    omega
  | decGeomLast b rest buf x0 y0 w ht v hfsm hbin hidx hv hpay =>
    have hle := payload_le s.extentMode x0 y0 w ht
    rw [← hv, bytesPerRow_eq, windowRows_eq] at hle
    have h7 : s.h.idx.toNat = 7 := by rw [hidx]; rfl
    rw [stepsLeft_decGeom hfsm, stepsLeft_decPix rfl, h7]
    dsimp only
    omega
  | decPixCol b rest vl vr hfsm hbin hcol =>
    have hdx := dx_add_two_toNat hdec hfsm
    obtain ⟨-, -, -, -, hle, hlt, -, -, hdy⟩ := hdec hfsm
    rw [stepsLeft_decPix hfsm] at hpos ⊢
    rw [stepsLeft_decPix rfl]
    dsimp only
    rw [hdx]
    omega
  | decPixRow b rest vl vr hfsm hbin hcol hrow =>
    obtain ⟨-, -, -, -, hle, hlt, -, -, hdy⟩ := hdec hfsm
    rw [stepsLeft_decPix hfsm, stepsLeft_decPix rfl]
    dsimp only
    rw [toNat_add_one_of_lt hdy, Nat.sub_self]
    obtain ⟨k, hk⟩ : ∃ k, s.h.ye.toNat - s.h.dy.toNat = k + 1 := ⟨s.h.ye.toNat - s.h.dy.toNat - 1, by omega⟩
    rw [show s.h.ye.toNat - (s.h.dy.toNat + 1) = k by omega, hk, Nat.mul_succ]
    omega

/-- Settles O44: the measure falls with every enabled step, and it is positive exactly while a command is in progress. -/
theorem blockStepsAreBounded : Obligations.BlockStepsAreBounded := by
  refine ⟨fun s t hinv ht => (blockMove_of_blockStep ht).stepsLeft_lt hinv,
    fun s hinv => ⟨fun hzero => ?_, stepsLeft_of_not_busy⟩⟩
  by_contra hbusy
  have hpos := stepsLeft_pos_of_busy hinv (by simpa using hbusy)
  omega

end Sys2Proof.Machine
end


section
/-! Rules about whole steps, read off the moves: what leaves ERROR and enters it, who writes each flag and each read-only
register, how the streams change, and how a run ends (spec/10_state.md R36, R37, R41, spec/20_memory.md R64 to R67,
spec/43_control.md R205 to R208, spec/60_exceptions.md R225, R232). -/

namespace Sys2Proof.Machine

/-! ### What a turn is called -/

/-- A CTRL write with SRST 1 is a reset turn (R250). -/
theorem resetNext_of_srst {s : State} {a : Addr} {d : Word} {rest : List Turn}
    (hturn : s.host.agenda = .host (.regWrite a d) :: rest) (hctrl : regSelect a = 0x0#4) (hsrst : srstField d = true) :
    s.resetNext = true := by
  simp only [State.resetNext, hturn, hctrl, hsrst, beq_self_eq_true, Bool.and_self]

/-- The reset input is a reset turn (R250). -/
theorem resetNext_of_resetPin {s : State} {rest : List Turn} (hturn : s.host.agenda = .host .resetPin :: rest) :
    s.resetNext = true := by
  rw [State.resetNext, hturn]

/-- A CTRL write with SRST 0 and a CMD other than 0 is a command turn (R200). -/
theorem commandNext_of_cmd {s : State} {a : Addr} {d : Word} {rest : List Turn}
    (hturn : s.host.agenda = .host (.regWrite a d) :: rest) (hctrl : regSelect a = 0x0#4) (hsrst : srstField d = false)
    (hcmd : cmdField d ≠ 0#4) : s.commandNext = true := by
  simp only [State.commandNext, hturn, hctrl, hsrst, beq_self_eq_true, Bool.not_false, Bool.and_self,
    bne_iff_ne.mpr hcmd]

/-! ### What a command's own part can do -/

/-- What a command's own part leaves as it finds it: EXTENT_MODE, the HOST's side, the streams, IE, EOS and CMD_DROP. -/
theorem Issued.frame {ie : Bool} {i : Instr} {body : State → State} (hissued : Issued ie i body) (s : State) :
    (body s).extentMode = s.extentMode ∧ (body s).host = s.host ∧ (body s).io = s.io ∧ (body s).regs.ie = s.regs.ie
      ∧ (body s).regs.eos = s.regs.eos ∧ (body s).regs.cmdDrop = s.regs.cmdDrop := by
  cases hissued with
  | encRecord =>
    rcases encRecordBody_cases s with ⟨code, -, hraise⟩ | ⟨-, -, -, hstart⟩
    · rw [hraise]; exact ⟨rfl, rfl, rfl, rfl, rfl, rfl⟩
    · rw [hstart]; exact ⟨rfl, rfl, rfl, rfl, rfl, rfl⟩
  | _ => exact ⟨rfl, rfl, rfl, rfl, rfl, rfl⟩

/-- A command's own part starts a phase, or completes the command, or fails it (R206, R225). -/
theorem Issued.ends {ie : Bool} {i : Instr} {body : State → State} (hissued : Issued ie i body) (s : State) :
    ((body s).busy = true ∧ (body s).regs.err = s.regs.err ∧ (body s).regs.done = s.regs.done)
      ∨ ((body s).h.fsm = .idle ∧ (body s).regs.err = s.regs.err)
      ∨ ((body s).h.fsm = .error ∧ (body s).regs.err ≠ .none ∧ (body s).regs.done = s.regs.done) := by
  cases hissued with
  | encRecord =>
    rcases encRecordBody_cases s with ⟨code, hcode, hraise⟩ | ⟨-, -, -, hstart⟩
    · rw [hraise]; exact .inr (.inr ⟨rfl, hcode, rfl⟩)
    · rw [hstart]; exact .inl ⟨rfl, rfl, rfl⟩
  | pack | unpack => exact .inr (.inl ⟨rfl, rfl⟩)
  | encHeader | decHeader | decRecord => exact .inl ⟨rfl, rfl, rfl⟩
  | reserved _ => exact .inr (.inr ⟨rfl, nofun, rfl⟩)

/-- Only PACK and UNPACK write DP_RESULT (R36). -/
theorem Issued.dpResult {ie : Bool} {i : Instr} {body : State → State} (hissued : Issued ie i body) (s : State) :
    (body s).regs.dpResult = s.regs.dpResult ∨ i = .pack ie ∨ i = .unpack ie := by
  cases hissued with
  | pack => exact .inr (.inl rfl)
  | unpack => exact .inr (.inr rfl)
  | encRecord =>
    rcases encRecordBody_cases s with ⟨code, -, hraise⟩ | ⟨-, -, -, hstart⟩
    · rw [hraise]; exact .inl rfl
    · rw [hstart]; exact .inl rfl
  | _ => exact .inl rfl

/-- Only ENC_RECORD writes PAY_LEN (R37, R142). -/
theorem Issued.payLen {ie : Bool} {i : Instr} {body : State → State} (hissued : Issued ie i body) (s : State) :
    (body s).regs.payLen = s.regs.payLen ∨ i = .encRecord ie := by
  cases hissued with
  | encRecord => exact .inr rfl
  | _ => exact .inl rfl

/-! ### ERROR -/

/-- Outside IDLE and without a reset, a HOST move leaves the phase, the hidden state and the flags but CMD_DROP and IE, and
takes nothing off a stream (R201, R62). -/
theorem HostMove.frame_of_not_idle {s t : State} {a : HostAction} {rest : List Turn}
    (hturn : s.host.agenda = .host a :: rest) (hmove : HostMove (s.withAgenda rest) a t) (hidle : s.h.fsm ≠ .idle)
    (hreset : s.resetNext = false) :
    t.h = s.h ∧ t.regs.err = s.regs.err ∧ t.regs.done = s.regs.done ∧ t.regs.eos = s.regs.eos
      ∧ t.regs.dpResult = s.regs.dpResult ∧ t.regs.payLen = s.regs.payLen
      ∧ t.io.bout = s.io.bout ∧ t.io.pout = s.io.pout ∧ s.io.bin <+: t.io.bin ∧ s.io.pin <+: t.io.pin := by
  have hbin := List.prefix_refl s.io.bin
  have hpin := List.prefix_refl s.io.pin
  cases hmove with
  | resetPin => rw [resetNext_of_resetPin hturn] at hreset; cases hreset
  | srst a d hctrl hsrst => rw [resetNext_of_srst hturn hctrl hsrst] at hreset; cases hreset
  | accepted a d body hctrl hsrst hcmd hissued hi => exact absurd hi hidle
  | nop | dropped | noEffect | clearDrop | regRead | boutTake | poutTake =>
    exact ⟨rfl, rfl, rfl, rfl, rfl, rfl, rfl, rfl, hbin, hpin⟩
  | stored a d n hbusy =>
    obtain ⟨-, herr, heos, hdone, -, hdp, hpay⟩ := store_frame s.regs n d
    exact ⟨rfl, herr, hdone, heos, hdp, hpay, rfl, rfl, hbin, hpin⟩
  | binAppend x => exact ⟨rfl, rfl, rfl, rfl, rfl, rfl, rfl, rfl, List.prefix_append _ _, hpin⟩
  | pinAppend p => exact ⟨rfl, rfl, rfl, rfl, rfl, rfl, rfl, rfl, hbin, List.prefix_append _ _⟩

/-- Settles O42: in ERROR the BLOCK has no move, and a HOST move there changes none of this without a reset. -/
theorem errorIsTerminalUntilReset : Obligations.ErrorIsTerminalUntilReset := by
  intro s t hfail hstep hreset
  cases stepMove_of_step hstep with
  | host a rest hturn hmove => exact hmove.frame_of_not_idle hturn (by rw [hfail]; nofun) hreset
  | block l _ hmove => exact absurd hfail (busy_iff.mp hmove.busy).2
  | pass l => exact ⟨rfl, rfl, rfl, rfl, rfl, rfl, rfl, rfl, List.prefix_refl _, List.prefix_refl _⟩

/-- ERROR is not BUSY (R25). -/
theorem busy_of_error {s : State} (hfail : s.h.fsm = .error) : s.busy = false := by
  simp [State.busy, hfail]

/-- Settles O43: of the moves only an accepted command and a failing BLOCK move enter ERROR, both from unset flags. -/
theorem errorEntryLatchesACode : Obligations.ErrorEntryLatchesACode := by
  intro s t hinv hok hstep hfail
  have hbusy := busy_of_error hfail
  have hnone : s.regs.err = .none := by
    by_contra herr
    exact hok (hinv.1.1.mp herr)
  cases stepMove_of_step hstep with
  | block l hturn hmove =>
    have hrun : s.busy = true := hmove.busy
    obtain ⟨-, hdone, heos⟩ := Inv.flags_of_busy hinv hrun
    rcases hmove.ends with ⟨hstay, -⟩ | ⟨hidle, -⟩ | ⟨-, hcode, hdone', heos'⟩
    · rw [hbusy] at hstay; cases hstay
    · rw [hfail] at hidle; cases hidle
    · exact ⟨hnone, hcode, hdone'.trans hdone, heos'.trans heos, hbusy, .inr ⟨hturn, hrun⟩⟩
  | pass l => exact absurd hfail hok
  | host a rest hturn hmove =>
    cases hmove with
    | accepted a d body hctrl hsrst hcmd hissued hidle =>
      let u := ((s.withAgenda rest).setIe (ieField d)).clearEnded
      obtain ⟨-, -, -, -, heos, -⟩ := hissued.frame u
      rcases hissued.ends u with ⟨hstay, -⟩ | ⟨hend, -⟩ | ⟨-, hcode, hdone⟩
      · rw [hbusy] at hstay; cases hstay
      · rw [hfail] at hend; cases hend
      · exact ⟨hnone, hcode, hdone, heos, hbusy, .inl ⟨commandNext_of_cmd hturn hctrl hsrst hcmd, hidle⟩⟩
    | resetPin | srst => cases hfail
    | _ => exact absurd hfail hok

/-! ### The causes of a change -/

/-- What a HOST move does to DONE, EOS and ERR: a reset clears them; a command accepted in IDLE clears DONE and EOS first
and may then complete or fail; nothing else touches them (R41, R202). -/
theorem HostMove.flags {s t : State} {a : HostAction} {rest : List Turn} (hturn : s.host.agenda = .host a :: rest)
    (hmove : HostMove (s.withAgenda rest) a t) :
    (s.resetNext = true ∧ t.regs.done = false ∧ t.regs.eos = false)
      ∨ (s.commandNext = true ∧ s.h.fsm = .idle ∧ t.regs.eos = false
        ∧ ((t.h.fsm = .idle ∧ t.regs.err = s.regs.err)
          ∨ (t.regs.done = false ∧ (t.regs.err = s.regs.err ∨ (t.regs.err ≠ .none ∧ t.h.fsm = .error)))))
      ∨ (t.regs.done = s.regs.done ∧ t.regs.eos = s.regs.eos ∧ t.regs.err = s.regs.err) := by
  cases hmove with
  | resetPin => exact .inl ⟨resetNext_of_resetPin hturn, rfl, rfl⟩
  | srst a d hctrl hsrst => exact .inl ⟨resetNext_of_srst hturn hctrl hsrst, rfl, rfl⟩
  | accepted a d body hctrl hsrst hcmd hissued hidle =>
    let u := ((s.withAgenda rest).setIe (ieField d)).clearEnded
    obtain ⟨-, -, -, -, heos, -⟩ := hissued.frame u
    refine .inr (.inl ⟨commandNext_of_cmd hturn hctrl hsrst hcmd, hidle, heos, ?_⟩)
    rcases hissued.ends u with ⟨-, herr, hdone⟩ | ⟨hend, herr⟩ | ⟨hfail, hcode, hdone⟩
    · exact .inr ⟨hdone, .inl herr⟩
    · exact .inl ⟨hend, herr⟩
    · exact .inr ⟨hdone, .inr ⟨hcode, hfail⟩⟩
  | stored a d n hbusy =>
    obtain ⟨-, herr, heos, hdone, -, -, -⟩ := store_frame s.regs n d
    exact .inr (.inr ⟨hdone, heos, herr⟩)
  | _ => exact .inr (.inr ⟨rfl, rfl, rfl⟩)

/-- What a HOST move does to CMD_DROP: a reset or a STATUS write clears it, a command outside IDLE sets it (R29, R201). -/
theorem HostMove.cmdDrop {s t : State} {a : HostAction} {rest : List Turn} (hturn : s.host.agenda = .host a :: rest)
    (hmove : HostMove (s.withAgenda rest) a t) :
    t.regs.cmdDrop = s.regs.cmdDrop ∨ (t.regs.cmdDrop = true ∧ s.commandNext = true ∧ s.h.fsm ≠ .idle)
      ∨ (t.regs.cmdDrop = false ∧ (s.resetNext = true
        ∨ ∃ a d rest, s.host.agenda = .host (.regWrite a d) :: rest ∧ a &&& 0x3C#6 = 0x04#6 ∧ d.getLsbD 9 = true)) := by
  cases hmove with
  | resetPin => exact .inr (.inr ⟨rfl, .inl (resetNext_of_resetPin hturn)⟩)
  | srst a d hctrl hsrst => exact .inr (.inr ⟨rfl, .inl (resetNext_of_srst hturn hctrl hsrst)⟩)
  | dropped a d hctrl hsrst hcmd hidle => exact .inr (.inl ⟨rfl, commandNext_of_cmd hturn hctrl hsrst hcmd, hidle⟩)
  | clearDrop a d hstatus hbit =>
    exact .inr (.inr ⟨rfl, .inr ⟨a, d, rest, hturn, (regAt_eq_status_iff a).mp hstatus, hbit⟩⟩)
  | accepted a d body hctrl hsrst hcmd hissued hidle =>
    obtain ⟨-, -, -, -, -, hdrop⟩ := hissued.frame ((s.withAgenda rest).setIe (ieField d)).clearEnded
    exact .inl hdrop
  | stored a d n hbusy =>
    obtain ⟨-, -, -, -, hdrop, -, -⟩ := store_frame s.regs n d
    exact .inl hdrop
  | _ => exact .inl rfl

/-- What a HOST move does to IE: a reset clears it, and a CTRL write with SRST 0 writes it with bit 8 (R205). -/
theorem HostMove.ie {s t : State} {a : HostAction} {rest : List Turn} (hturn : s.host.agenda = .host a :: rest)
    (hmove : HostMove (s.withAgenda rest) a t) :
    t.regs.ie = s.regs.ie ∨ s.resetNext = true
      ∨ ∃ a d rest, s.host.agenda = .host (.regWrite a d) :: rest ∧ a &&& 0x3C#6 = 0x00#6 ∧ d.getLsbD 31 = false
        ∧ t.regs.ie = d.getLsbD 8 := by
  cases hmove with
  | resetPin => exact .inr (.inl (resetNext_of_resetPin hturn))
  | srst a d hctrl hsrst => exact .inr (.inl (resetNext_of_srst hturn hctrl hsrst))
  | nop a d hctrl hsrst => exact .inr (.inr ⟨a, d, rest, hturn, (regSelect_eq_zero a).mp hctrl, hsrst, rfl⟩)
  | dropped a d hctrl hsrst => exact .inr (.inr ⟨a, d, rest, hturn, (regSelect_eq_zero a).mp hctrl, hsrst, rfl⟩)
  | accepted a d body hctrl hsrst hcmd hissued hidle =>
    obtain ⟨-, -, -, hie, -, -⟩ := hissued.frame ((s.withAgenda rest).setIe (ieField d)).clearEnded
    exact .inr (.inr ⟨a, d, rest, hturn, (regSelect_eq_zero a).mp hctrl, hsrst, hie⟩)
  | stored a d n hbusy => exact .inl (store_frame s.regs n d).1
  | _ => exact .inl rfl

/-- DONE is set by the end of a command: one accepted in IDLE, or one in progress (R206). -/
theorem done_set_cause {s t : State} (hmove : StepMove s t) (hs : s.regs.done = false) (ht : t.regs.done = true) :
    t.h.fsm = .idle ∧ ((s.commandNext = true ∧ s.h.fsm = .idle) ∨ (s.blockNext = true ∧ s.busy = true)) := by
  have hne : t.regs.done ≠ s.regs.done := by rw [hs, ht]; decide
  have htrue : t.regs.done ≠ false := by rw [ht]; decide
  cases hmove with
  | pass l => exact absurd rfl hne
  | host a rest hturn hmove =>
    rcases hmove.flags hturn with ⟨-, hdone, -⟩ | ⟨hcmd, hidle, -, ⟨hend, -⟩ | ⟨hdone, -⟩⟩ | ⟨hdone, -⟩
    exacts [absurd hdone htrue, ⟨hend, .inl ⟨hcmd, hidle⟩⟩, absurd hdone htrue, absurd hdone hne]
  | block l hturn hmove =>
    rcases hmove.ends with ⟨-, -, hdone, -⟩ | ⟨hend, -⟩ | ⟨-, -, hdone, -⟩
    exacts [absurd hdone hne, ⟨hend, .inr ⟨hturn, hmove.busy⟩⟩, absurd hdone hne]

/-- EOS is set by the clean end of a stream, together with DONE (R149). -/
theorem eos_set_cause {s t : State} (hmove : StepMove s t) (hs : s.regs.eos = false) (ht : t.regs.eos = true) :
    s.blockNext = true ∧ s.h.fsm = .decGeom ∧ t.regs.done = true := by
  have hne : t.regs.eos ≠ s.regs.eos := by rw [hs, ht]; decide
  have htrue : t.regs.eos ≠ false := by rw [ht]; decide
  cases hmove with
  | pass l => exact absurd rfl hne
  | host a rest hturn hmove =>
    rcases hmove.flags hturn with ⟨-, -, heos⟩ | ⟨-, -, heos, -⟩ | ⟨-, heos, -⟩
    exacts [absurd heos htrue, absurd heos htrue, absurd heos hne]
  | block l hturn hmove =>
    rcases hmove.ends with ⟨-, -, -, heos⟩ | ⟨-, -, hdone, heos | ⟨hfsm, -⟩⟩ | ⟨-, -, -, heos⟩
    exacts [absurd heos hne, absurd heos hne, ⟨hturn, hfsm, hdone⟩, absurd heos hne]

/-- DONE and EOS are cleared by a reset or by an accepted command (R202, R250). -/
theorem ended_clear_cause {s t : State} (hmove : StepMove s t)
    (hclear : (s.regs.done = true ∧ t.regs.done = false) ∨ (s.regs.eos = true ∧ t.regs.eos = false)) :
    s.resetNext = true ∨ (s.commandNext = true ∧ s.h.fsm = .idle) := by
  have hne : ¬ ((t.regs.done = s.regs.done ∨ t.regs.done = true) ∧ (t.regs.eos = s.regs.eos ∨ t.regs.eos = true)) := by
    rcases hclear with ⟨hs, ht⟩ | ⟨hs, ht⟩ <;> simp [hs, ht]
  cases hmove with
  | pass l => exact absurd ⟨.inl rfl, .inl rfl⟩ hne
  | host a rest hturn hmove =>
    rcases hmove.flags hturn with ⟨hreset, -⟩ | ⟨hcmd, hidle, -⟩ | ⟨hdone, heos, -⟩
    exacts [.inl hreset, .inr ⟨hcmd, hidle⟩, absurd ⟨.inl hdone, .inl heos⟩ hne]
  | block l hturn hmove =>
    rcases hmove.ends with ⟨-, -, hdone, heos⟩ | ⟨-, -, hdone, heos | ⟨-, heos⟩⟩ | ⟨-, -, hdone, heos⟩
    exacts [absurd ⟨.inl hdone, .inl heos⟩ hne, absurd ⟨.inr hdone, .inl heos⟩ hne,
      absurd ⟨.inr hdone, .inr heos⟩ hne, absurd ⟨.inl hdone, .inl heos⟩ hne]

/-- ERR changes by a reset, or to a code, by a command or a BLOCK step (R41, R225). -/
theorem err_cause {s t : State} (hmove : StepMove s t) (hne : t.regs.err ≠ s.regs.err) :
    s.resetNext = true
      ∨ (t.regs.err ≠ .none ∧ t.h.fsm = .error ∧ (s.commandNext = true ∨ s.blockNext = true)) := by
  cases hmove with
  | pass l => exact absurd rfl hne
  | host a rest hturn hmove =>
    rcases hmove.flags hturn with ⟨hreset, -⟩ | ⟨hcmd, -, -, ⟨-, herr⟩ | ⟨-, herr | ⟨hcode, hfail⟩⟩⟩ | ⟨-, -, herr⟩
    exacts [.inl hreset, absurd herr hne, absurd herr hne, .inr ⟨hcode, hfail, .inl hcmd⟩, absurd herr hne]
  | block l hturn hmove =>
    rcases hmove.ends with ⟨-, herr, -⟩ | ⟨-, herr, -⟩ | ⟨hfail, hcode, -⟩
    exacts [absurd herr hne, absurd herr hne, .inr ⟨hcode, hfail, .inr hturn⟩]

/-- CMD_DROP changes by a HOST move alone (R29). -/
theorem cmdDrop_cause {s t : State} (hmove : StepMove s t) (hne : t.regs.cmdDrop ≠ s.regs.cmdDrop) :
    (t.regs.cmdDrop = true ∧ s.commandNext = true ∧ s.h.fsm ≠ .idle)
      ∨ (t.regs.cmdDrop = false ∧ (s.resetNext = true
        ∨ ∃ a d rest, s.host.agenda = .host (.regWrite a d) :: rest ∧ a &&& 0x3C#6 = 0x04#6 ∧ d.getLsbD 9 = true)) := by
  cases hmove with
  | pass l => exact absurd rfl hne
  | host a rest hturn hmove => exact (hmove.cmdDrop hturn).resolve_left hne
  | block l hturn hmove => exact absurd hmove.regs_frame.2.1 hne

/-- IE changes by a HOST move alone (R205). -/
theorem ie_cause {s t : State} (hmove : StepMove s t) (hne : t.regs.ie ≠ s.regs.ie) :
    s.resetNext = true
      ∨ ∃ a d rest, s.host.agenda = .host (.regWrite a d) :: rest ∧ a &&& 0x3C#6 = 0x00#6 ∧ d.getLsbD 31 = false
        ∧ t.regs.ie = d.getLsbD 8 := by
  cases hmove with
  | pass l => exact absurd rfl hne
  | host a rest hturn hmove => exact (hmove.ie hturn).resolve_left hne
  | block l hturn hmove => exact absurd hmove.regs_frame.1 hne

/-- Settles O45: one cause for each flag, each read off the moves. -/
theorem flagsChangeForTheirCauses : Obligations.FlagsChangeForTheirCauses := by
  intro s t hstep
  have hmove := stepMove_of_step hstep
  refine ⟨done_set_cause hmove, eos_set_cause hmove, ended_clear_cause hmove, fun hs ht => ?_, fun hs ht => ?_,
    err_cause hmove, ie_cause hmove⟩
  · rcases cmdDrop_cause hmove (by rw [hs, ht]; decide) with ⟨-, hdropped⟩ | ⟨hfalse, -⟩
    · exact hdropped
    · rw [ht] at hfalse; cases hfalse
  · rcases cmdDrop_cause hmove (by rw [hs, ht]; decide) with ⟨htrue, -⟩ | ⟨-, hcleared⟩
    · rw [ht] at htrue; cases htrue
    · exact hcleared

/-! ### Read-only registers -/

/-- A HOST move writes DP_RESULT at a reset or a PACK or UNPACK accepted in IDLE (R36). -/
theorem HostMove.dpResult {s t : State} {a : HostAction} {rest : List Turn} (hturn : s.host.agenda = .host a :: rest)
    (hmove : HostMove (s.withAgenda rest) a t) :
    t.regs.dpResult = s.regs.dpResult ∨ s.resetNext = true
      ∨ ∃ a d rest, s.host.agenda = .host (.regWrite a d) :: rest ∧ a &&& 0x3C#6 = 0x00#6 ∧ s.h.fsm = .idle
        ∧ (decode d = .pack (d.getLsbD 8) ∨ decode d = .unpack (d.getLsbD 8)) := by
  cases hmove with
  | resetPin => exact .inr (.inl (resetNext_of_resetPin hturn))
  | srst a d hctrl hsrst => exact .inr (.inl (resetNext_of_srst hturn hctrl hsrst))
  | accepted a d body hctrl hsrst hcmd hissued hidle =>
    rcases hissued.dpResult ((s.withAgenda rest).setIe (ieField d)).clearEnded with hsame | hinstr
    · exact .inl hsame
    · exact .inr (.inr ⟨a, d, rest, hturn, (regSelect_eq_zero a).mp hctrl, hidle, hinstr⟩)
  | stored a d n hbusy =>
    obtain ⟨-, -, -, -, -, hdp, -⟩ := store_frame s.regs n d
    exact .inl hdp
  | _ => exact .inl rfl

/-- A HOST move writes PAY_LEN at a reset or an ENC_RECORD accepted in IDLE (R37). -/
theorem HostMove.payLen {s t : State} {a : HostAction} {rest : List Turn} (hturn : s.host.agenda = .host a :: rest)
    (hmove : HostMove (s.withAgenda rest) a t) :
    t.regs.payLen = s.regs.payLen ∨ s.resetNext = true
      ∨ ∃ a d rest, s.host.agenda = .host (.regWrite a d) :: rest ∧ a &&& 0x3C#6 = 0x00#6 ∧ s.h.fsm = .idle
        ∧ decode d = .encRecord (d.getLsbD 8) := by
  cases hmove with
  | resetPin => exact .inr (.inl (resetNext_of_resetPin hturn))
  | srst a d hctrl hsrst => exact .inr (.inl (resetNext_of_srst hturn hctrl hsrst))
  | accepted a d body hctrl hsrst hcmd hissued hidle =>
    rcases hissued.payLen ((s.withAgenda rest).setIe (ieField d)).clearEnded with hsame | hinstr
    · exact .inl hsame
    · exact .inr (.inr ⟨a, d, rest, hturn, (regSelect_eq_zero a).mp hctrl, hidle, hinstr⟩)
  | stored a d n hbusy =>
    obtain ⟨-, -, -, -, -, -, hpay⟩ := store_frame s.regs n d
    exact .inl hpay
  | _ => exact .inl rfl

/-- Settles O46: the BLOCK never writes DP_RESULT and writes PAY_LEN at the eighth geometry byte; the HOST as above. -/
theorem readOnlyRegistersChangeForTheirCauses : Obligations.ReadOnlyRegistersChangeForTheirCauses := by
  intro s t hstep
  cases stepMove_of_step hstep with
  | pass l => exact ⟨fun h => absurd rfl h, fun h => absurd rfl h⟩
  | host a rest hturn hmove =>
    exact ⟨(hmove.dpResult hturn).resolve_left, fun h => ((hmove.payLen hturn).resolve_left h).imp id .inl⟩
  | block l hturn hmove =>
    refine ⟨fun h => absurd hmove.regs_frame.2.2 h, fun h => ?_⟩
    obtain ⟨hfsm, hidx, hidx', -⟩ := hmove.payLen.resolve_left h
    exact .inr (.inr ⟨hturn, hfsm, hidx, hidx'⟩)

/-! ### Streams -/

/-- A HOST move leaves BOUT, POUT and EXTENT_MODE as they are (R66, R67, R252). -/
theorem HostMove.outputs {u t : State} {a : HostAction} (hmove : HostMove u a t) :
    t.io.bout = u.io.bout ∧ t.io.pout = u.io.pout ∧ t.extentMode = u.extentMode := by
  cases hmove with
  | accepted a d body hctrl hsrst hcmd hissued hidle =>
    obtain ⟨hext, -, hio, -⟩ := hissued.frame (u.setIe (ieField d)).clearEnded
    exact ⟨congrArg Streams.bout hio, congrArg Streams.pout hio, hext⟩
  | _ => exact ⟨rfl, rfl, rfl⟩

/-- A HOST move leaves BIN and PIN as they are, or appends its element to one of them (R64, R65). -/
theorem HostMove.inputs {u t : State} {a : HostAction} (hmove : HostMove u a t) :
    (t.io.bin = u.io.bin ∨ ∃ x, t.io.bin = u.io.bin ++ [x] ∧ a = .binAppend x)
      ∧ (t.io.pin = u.io.pin ∨ ∃ p, t.io.pin = u.io.pin ++ [p] ∧ a = .pinAppend p) := by
  cases hmove with
  | accepted a d body hctrl hsrst hcmd hissued hidle =>
    obtain ⟨-, -, hio, -⟩ := hissued.frame (u.setIe (ieField d)).clearEnded
    exact ⟨.inl (congrArg Streams.bin hio), .inl (congrArg Streams.pin hio)⟩
  | binAppend x => exact ⟨.inr ⟨x, rfl, rfl⟩, .inl rfl⟩
  | pinAppend p => exact ⟨.inl rfl, .inr ⟨p, rfl, rfl⟩⟩
  | _ => exact ⟨.inl rfl, .inl rfl⟩

/-- Settles O53: the HOST leaves the outputs, and a BLOCK move appends a byte, or a byte's two pixels, or nothing. -/
theorem outputsOnlyGrow : Obligations.OutputsOnlyGrow := by
  intro s t hstep
  cases stepMove_of_step hstep with
  | pass l => exact ⟨.inl rfl, .inl rfl, rfl⟩
  | host a rest hturn hmove =>
    obtain ⟨hbout, hpout, hext⟩ := hmove.outputs
    exact ⟨.inl hbout, .inl hpout, hext⟩
  | block l hturn hmove =>
    refine ⟨?_, ?_, hmove.frame.1⟩
    · exact hmove.bout.imp id fun ⟨⟨b, hbout⟩, hfsm⟩ => ⟨b, hbout, hturn, hfsm⟩
    · exact hmove.pout.imp id fun ⟨hfsm, vl, vr, hpout⟩ => ⟨_, _, hpout, hturn, hfsm⟩

/-- Settles O54: the HOST appends at the tail, and a BLOCK move takes the head in the phases that read the stream. -/
theorem inputsAreFifos : Obligations.InputsAreFifos := by
  intro s t hstep
  cases stepMove_of_step hstep with
  | pass l => exact ⟨.inl rfl, .inl rfl⟩
  | host a rest hturn hmove =>
    obtain ⟨hbin, hpin⟩ := hmove.inputs
    refine ⟨hbin.imp id fun ⟨x, happend, ha⟩ => .inr ⟨x, rest, happend, ?_⟩,
      hpin.imp id fun ⟨p, happend, ha⟩ => .inr ⟨p, rest, happend, ?_⟩⟩ <;> rw [hturn, ha]
  | block l hturn hmove =>
    refine ⟨?_, ?_⟩
    · exact hmove.bin.imp id fun ⟨⟨x, hbin⟩, hfsm⟩ => .inl ⟨x, hbin, hturn, hfsm⟩
    · exact hmove.pin.imp id fun ⟨⟨p, hpin⟩, hfsm⟩ => .inl ⟨p, hpin, hturn, hfsm⟩

/-! ### The end of a run -/

/-- Whether the BLOCK has a step does not depend on the agenda (R207). -/
theorem blockEnabled_withAgenda (s : State) (l : List Turn) : (s.withAgenda l).blockEnabled = s.blockEnabled := by
  rw [Bool.eq_iff_iff, ← not_iff_not, Bool.not_eq_true, Bool.not_eq_true, noStepIsEnabledExactlyWhen,
    noStepIsEnabledExactlyWhen]
  rfl

/-- With no step enabled the BLOCK's turn changes nothing (R206). -/
theorem blockTurn_of_not_enabled {s : State} (hnone : s.blockEnabled = false) : blockTurn s = .next s :=
  blockTurn_of_none (Option.isNone_iff_eq_none.mp (Option.isSome_eq_false_iff.mp hnone))

/-- Settles O56: O24 lists the phases without a step, the invariant says IDLE has no error, and the agenda holds turns of
the BLOCK only. -/
theorem anEndedRunIsOneOfThree : Obligations.AnEndedRunIsOneOfThree := by
  intro s hinv hended
  obtain ⟨hdone, hnone⟩ := id hended
  refine ⟨?one, ?wellHeld, ?wellFailed, ?heldFailed, ?step, fun hempty => ?_⟩
  case one =>
    rcases (noStepIsEnabledExactlyWhen s).mp hnone with hidle | hfail | ⟨hpix, -⟩ | ⟨hdec, -⟩
    · exact .inl ⟨hended, hidle, err_none_of_idle hinv hidle⟩
    · exact .inr (.inr ⟨hended, hfail⟩)
    · exact .inr (.inl ⟨hended, .inl hpix⟩)
    · exact .inr (.inl ⟨hended, .inr hdec⟩)
  case wellHeld =>
    rintro ⟨⟨-, hidle, -⟩, -, hheld⟩
    rw [hidle] at hheld
    revert hheld; decide
  case wellFailed =>
    rintro ⟨⟨-, hidle, -⟩, -, hfail⟩
    rw [hidle] at hfail
    cases hfail
  case heldFailed =>
    rintro ⟨⟨-, hheld⟩, -, hfail⟩
    rw [hfail] at hheld
    revert hheld; decide
  case step =>
    rcases agenda_of_programDone hdone with hempty | ⟨rest, hturn⟩
    · rw [step_empty hempty, blockTurn_of_not_enabled hnone, hempty, List.tail_nil, ← hempty]
    · rw [step_block hturn, blockTurn_of_not_enabled ((blockEnabled_withAgenda s rest).trans hnone), hturn]
      rfl
  · rw [step_empty hempty, blockTurn_of_not_enabled hnone]

end Sys2Proof.Machine
end


section
/-! The BLOCK is deterministic given its input streams: what stands behind the head of a stream does not change its step
(spec/43_control.md R207, spec/20_memory.md section 5). -/

namespace Sys2Proof.Machine

/-- `s` with `xs` after the tokens of BIN and `ps` after the samples of PIN. -/
def State.feed (s : State) (xs : List Token) (ps : List Byte) : State :=
  { s with io.bin := s.io.bin ++ xs, io.pin := s.io.pin ++ ps }

/-- A HOST append to BIN feeds one token. -/
theorem binAppend_eq_feed (s : State) (x : Token) : s.binAppend x = s.feed [x] [] := by
  simp only [State.feed, State.binAppend, List.append_nil]

/-- A HOST append to PIN feeds one sample. -/
theorem pinAppend_eq_feed (s : State) (p : Byte) : s.pinAppend p = s.feed [] [p] := by
  simp only [State.feed, State.pinAppend, List.append_nil]

section

variable {s t : State} (xs : List Token) (ps : List Byte)

/-- ENC_HDR reads no stream. -/
theorem blockStep_feed_encHdr (hfsm : s.h.fsm = .encHdr) (ht : blockStep s = some (.next t)) :
    blockStep (s.feed xs ps) = some (.next (t.feed xs ps)) := by
  have hidx := encHdr_idx_lt hfsm ht
  obtain ⟨b, hb, hstep⟩ := encHdrStep s hfsm hidx
  obtain ⟨b', hb', hstep'⟩ := encHdrStep (s.feed xs ps) hfsm hidx
  obtain rfl := Option.some.inj (hb.symm.trans hb')
  obtain rfl := eq_of_blockStep ht hstep
  exact hstep'

/-- ENC_GEOM reads no stream. -/
theorem blockStep_feed_encGeom (hfsm : s.h.fsm = .encGeom) (ht : blockStep s = some (.next t)) :
    blockStep (s.feed xs ps) = some (.next (t.feed xs ps)) := by
  have hidx := encGeom_idx_lt hfsm ht
  obtain ⟨b, hb, hstep⟩ := encGeomStep s hfsm hidx
  obtain ⟨b', hb', hstep'⟩ := encGeomStep (s.feed xs ps) hfsm hidx
  obtain rfl := Option.some.inj (hb.symm.trans hb')
  obtain rfl := eq_of_blockStep ht hstep
  exact hstep'

/-- ENC_PIX reads the head of PIN alone. -/
theorem blockStep_feed_encPix {p : Byte} {rest : List Byte} (hfsm : s.h.fsm = .encPix) (hpin : s.io.pin = p :: rest)
    (ht : blockStep s = some (.next t)) : blockStep (s.feed xs ps) = some (.next (t.feed xs ps)) := by
  obtain rfl := eq_of_blockStep ht (encPixStep.2 s p rest hfsm hpin)
  exact encPixStep.2 (s.feed xs ps) p (rest ++ ps) hfsm (congrArg (· ++ ps) hpin)

/-- DEC_HDR reads the head of BIN alone. -/
theorem blockStep_feed_decHdr {b : Byte} {rest : List Token} (hfsm : s.h.fsm = .decHdr)
    (hbin : s.io.bin = .byte b :: rest) (ht : blockStep s = some (.next t)) :
    blockStep (s.feed xs ps) = some (.next (t.feed xs ps)) := by
  have hstep := decHdrByteStep s b rest hfsm hbin
  have hstep' := decHdrByteStep (s.feed xs ps) b (rest ++ xs) hfsm (congrArg (· ++ xs) hbin)
  rcases idx_lt_or_eq (decHdr_idx_lt hfsm hbin ht) with hidx | hidx
  · obtain rfl := eq_of_blockStep ht (hstep.1 hidx)
    exact hstep'.1 hidx
  · obtain rfl := eq_of_blockStep ht (hstep.2 hidx)
    exact hstep'.2 hidx

/-- DEC_GEOM reads the head of BIN alone. -/
theorem blockStep_feed_decGeom {b : Byte} {rest : List Token} (hfsm : s.h.fsm = .decGeom)
    (hbin : s.io.bin = .byte b :: rest) (ht : blockStep s = some (.next t)) :
    blockStep (s.feed xs ps) = some (.next (t.feed xs ps)) := by
  have hstep := decGeomByteStep s b rest hfsm hbin
  have hstep' := decGeomByteStep (s.feed xs ps) b (rest ++ xs) hfsm (congrArg (· ++ xs) hbin)
  rcases idx_lt_or_eq (decGeom_idx_lt hfsm hbin ht) with hidx | hidx
  · obtain rfl := eq_of_blockStep ht (hstep.1 hidx)
    exact hstep'.1 hidx
  · obtain rfl := eq_of_blockStep ht (hstep.2 hidx _ _ _ _ _ rfl rfl rfl rfl rfl)
    exact hstep'.2 hidx _ _ _ _ _ rfl rfl rfl rfl rfl

/-- On `End` DEC_GEOM looks at the index and nothing behind the token. -/
theorem blockStep_feed_decGeom_end {rest : List Token} (hfsm : s.h.fsm = .decGeom)
    (hbin : s.io.bin = .endOfStream :: rest) (ht : blockStep s = some (.next t)) :
    blockStep (s.feed xs ps) = some (.next (t.feed xs ps)) := by
  have hstep := decGeomEndStep s rest hfsm hbin
  have hstep' := decGeomEndStep (s.feed xs ps) (rest ++ xs) hfsm (congrArg (· ++ xs) hbin)
  rcases Nat.lt_or_ge s.h.idx.toNat 2 with hidx | hidx
  · obtain rfl := eq_of_blockStep ht (hstep.1 hidx)
    exact hstep'.1 hidx
  · obtain rfl := eq_of_blockStep ht (hstep.2 hidx)
    exact hstep'.2 hidx

/-- DEC_PIX reads the head of BIN alone. -/
theorem blockStep_feed_decPix {b : Byte} {rest : List Token} (hfsm : s.h.fsm = .decPix)
    (hbin : s.io.bin = .byte b :: rest) (ht : blockStep s = some (.next t)) :
    blockStep (s.feed xs ps) = some (.next (t.feed xs ps)) := by
  obtain rfl := eq_of_blockStep ht (decPixByteStep s b rest hfsm hbin)
  exact decPixByteStep (s.feed xs ps) b (rest ++ xs) hfsm (congrArg (· ++ xs) hbin)

/-- On `End` DEC_HDR and DEC_PIX fail, whatever stands behind the token. -/
theorem blockStep_feed_truncated {rest : List Token} (hfsm : s.h.fsm = .decHdr ∨ s.h.fsm = .decPix)
    (hbin : s.io.bin = .endOfStream :: rest) (ht : blockStep s = some (.next t)) :
    blockStep (s.feed xs ps) = some (.next (t.feed xs ps)) := by
  obtain rfl := eq_of_blockStep ht (endTokenTruncates s rest hfsm hbin)
  exact endTokenTruncates (s.feed xs ps) (rest ++ xs) hfsm (congrArg (· ++ xs) hbin)

/-- An enabled BLOCK step is the same step on longer input streams, and leaves them longer by as much (R207). -/
theorem blockStep_feed (ht : blockStep s = some (.next t)) :
    blockStep (s.feed xs ps) = some (.next (t.feed xs ps)) := by
  rcases blockStep_cases ht with ⟨hfsm, -⟩ | ⟨hfsm, -⟩ | ⟨hfsm, p, rest, hpin, -⟩
    | ⟨hfsm, rest, ⟨b, hbin, -⟩ | ⟨hbin, -⟩⟩ | ⟨hfsm, rest, ⟨b, hbin, -⟩ | ⟨hbin, -⟩⟩
    | ⟨hfsm, rest, ⟨b, hbin, -⟩ | ⟨hbin, -⟩⟩
  · exact blockStep_feed_encHdr xs ps hfsm ht
  · exact blockStep_feed_encGeom xs ps hfsm ht
  · exact blockStep_feed_encPix xs ps hfsm hpin ht
  · exact blockStep_feed_decHdr xs ps hfsm hbin ht
  · exact blockStep_feed_truncated xs ps (.inl hfsm) hbin ht
  · exact blockStep_feed_decGeom xs ps hfsm hbin ht
  · exact blockStep_feed_decGeom_end xs ps hfsm hbin ht
  · exact blockStep_feed_decPix xs ps hfsm hbin ht
  · exact blockStep_feed_truncated xs ps (.inr hfsm) hbin ht

end

/-- Settles O55: either append feeds one element behind the head. -/
theorem appendsCommuteWithBlockSteps : Obligations.AppendsCommuteWithBlockSteps := by
  intro s t x p ht
  rw [binAppend_eq_feed, binAppend_eq_feed, pinAppend_eq_feed, pinAppend_eq_feed]
  exact ⟨blockStep_feed [x] [] ht, blockStep_feed [] [p] ht⟩

end Sys2Proof.Machine
end


section
/-! Runs of the BLOCK alone: with an empty agenda each step is the BLOCK's, so that a command is a chain of BLOCK steps
(spec/70_reset_and_hazards.md R267). The two chains that a header and a descriptor share: bytes emitted one by one, and
bytes stored one by one. -/

namespace Sys2Proof.Machine

/-! ### Chains of steps -/

/-- The machine goes from `s` to `t` in `n` steps. -/
def Runs (n : Nat) (s t : State) : Prop := Host.Core.run Sys2Proof.core n s = .next t

/-- No step goes nowhere. -/
theorem runs_zero (s : State) : Runs 0 s s := rfl

/-- A run of any core that begins with a step. -/
theorem core_run_succ_iff {M : Host.Core} {n : Nat} {s u : M.State} :
    M.run (n + 1) s = .next u ↔ ∃ t, M.step s = .next t ∧ M.run n t = .next u := by
  rw [Host.Core.run]
  cases M.step s with
  | next t => exact ⟨fun h => ⟨t, rfl, h⟩, fun ⟨_, ht, h⟩ => by cases ht; exact h⟩
  | fault r => exact ⟨nofun, fun ⟨_, ht, _⟩ => by cases ht⟩
  | refused r => exact ⟨nofun, fun ⟨_, ht, _⟩ => by cases ht⟩

/-- A run that begins with a step. -/
theorem runs_succ_iff {n : Nat} {s u : State} : Runs (n + 1) s u ↔ ∃ t, step s = .next t ∧ Runs n t u :=
  core_run_succ_iff (M := Sys2Proof.core)

/-- Two runs one after the other are one run. -/
theorem Runs.trans {m n : Nat} {s t u : State} (hst : Runs m s t) (htu : Runs n t u) : Runs (m + n) s u := by
  induction m generalizing s with
  | zero =>
    cases hst
    rwa [Nat.zero_add]
  | succ m ih =>
    obtain ⟨s', hstep, hrest⟩ := runs_succ_iff.mp hst
    rw [Nat.succ_add]
    exact runs_succ_iff.mpr ⟨s', hstep, ih hrest⟩

/-- A run has one end. -/
theorem Runs.unique {n : Nat} {s t u : State} (ht : Runs n s t) (hu : Runs n s u) : t = u := by
  rw [Runs, ht] at hu
  cases hu
  rfl

/-- With an empty agenda an enabled BLOCK step is a run of one step (R267). -/
theorem runs_one_of_blockStep {s t : State} (hempty : s.host.agenda = []) (hstep : blockStep s = some (.next t)) :
    Runs 1 s t :=
  runs_succ_iff.mpr ⟨t, (step_empty hempty).trans (blockTurn_of_enabled hstep), runs_zero t⟩

/-- A run with one more BLOCK step at its end. -/
theorem Runs.snoc {n : Nat} {s t u : State} (hst : Runs n s t) (hempty : t.host.agenda = [])
    (hstep : blockStep t = some (.next u)) : Runs (n + 1) s u :=
  hst.trans (runs_one_of_blockStep hempty hstep)

/-! ### The index as a count -/

/-- Counting on by one from a count. -/
theorem ofNat_add_one {n k : Nat} : BitVec.ofNat n k + 1 = BitVec.ofNat n (k + 1) := by
  rw [BitVec.ofNat_add]
  rfl

/-- An index that is a count below 16 is that count. -/
theorem idx_ofNat_toNat {k : Nat} (hk : k < 16) : (BitVec.ofNat 4 k).toNat = k := by
  rw [BitVec.toNat_ofNat, Nat.mod_eq_of_lt hk]

/-! ### Emitting bytes -/

/-- `Emits bytes s`: wherever its index is before the last of `bytes`, a state with the phase and the registers of `s` emits
the byte of its index and moves on (R122, R143). -/
def Emits (bytes : List Byte) (s : State) : Prop :=
  ∀ u : State, u.h.fsm = s.h.fsm → u.regs = s.regs → u.h.idx.toNat + 1 < bytes.length →
    ∃ b, bytes[u.h.idx.toNat]? = some b
      ∧ blockStep u = some (.next { u with io.bout := u.io.bout ++ [b], h.idx := u.h.idx + 1 })

/-- ENC_HDR emits the header (R120, R122). -/
theorem emits_encHdr {s : State} (hfsm : s.h.fsm = .encHdr) :
    Emits (headerBytes s.regs.hdrVersion s.regs.hdrIdent s.regs.hdrSleep) s := by
  intro u hufsm huregs hidx
  rw [hfsm] at hufsm
  have hidx8 : u.h.idx.toNat < 8 := Nat.lt_of_succ_lt_succ hidx
  obtain ⟨b, hb, hstep⟩ := encHdrStep u hufsm (Nat.lt_succ_of_lt hidx8)
  have hne : u.h.idx ≠ 8 := fun h => by rw [h] at hidx8; exact absurd hidx8 (by decide)
  simp only [if_neg hne] at hstep
  rw [huregs] at hb
  exact ⟨b, hb, by rw [hstep, ← hufsm]⟩

/-- ENC_GEOM emits the descriptor (R141, R143). -/
theorem emits_encGeom {s : State} (hfsm : s.h.fsm = .encGeom) :
    Emits (geometryBytes s.regs.x0 s.regs.y0 s.regs.w s.regs.ht) s := by
  intro u hufsm huregs hidx
  rw [hfsm] at hufsm
  have hidx7 : u.h.idx.toNat < 7 := Nat.lt_of_succ_lt_succ hidx
  obtain ⟨b, hb, hstep⟩ := encGeomStep u hufsm (Nat.lt_succ_of_lt hidx7)
  have hne : u.h.idx ≠ 7 := fun h => by rw [h] at hidx7; exact absurd hidx7 (by decide)
  simp only [if_neg hne, if_neg (fun h : _ ∧ _ => hne h.1)] at hstep
  rw [huregs] at hb
  exact ⟨b, hb, by rw [hstep, ← hufsm]⟩

/-- From index 0, `n` steps emit the first `n` bytes, as long as the last byte is still to come. -/
theorem runs_of_emits {bytes : List Byte} {s : State} (hemits : Emits bytes s) (hempty : s.host.agenda = [])
    (hlen : bytes.length ≤ 16) {n : Nat} (hn : n < bytes.length) (hidx : s.h.idx = 0) :
    Runs n s { s with io.bout := s.io.bout ++ bytes.take n, h.idx := BitVec.ofNat 4 n } := by
  induction n with
  | zero =>
    have hsame : { s with io.bout := s.io.bout ++ bytes.take 0, h.idx := BitVec.ofNat 4 0 } = s := by
      rw [List.take_zero, List.append_nil]
      exact congrArg (fun i => { s with h.idx := i }) hidx.symm
    rw [hsame]
    exact runs_zero s
  | succ n ih =>
    have hcount := idx_ofNat_toNat (k := n) (by omega)
    obtain ⟨b, hb, hstep⟩ := hemits { s with io.bout := s.io.bout ++ bytes.take n, h.idx := BitVec.ofNat 4 n } rfl rfl
      (by rw [hcount]; exact hn)
    rw [hcount] at hb
    have hrun := (ih (Nat.lt_of_succ_lt hn)).snoc hempty hstep
    dsimp only at hrun
    rwa [ofNat_add_one, List.append_assoc, ← Option.toList_some b, ← hb, ← List.take_add_one] at hrun

/-! ### Storing bytes -/

/-- Before the last byte of its record a decode phase only stores a byte (R124, R148). -/
theorem blockStep_storesByte {s : State} {b : Byte} {rest : List Token}
    (hphase : (s.h.fsm = .decHdr ∧ s.h.idx.toNat < 8) ∨ (s.h.fsm = .decGeom ∧ s.h.idx.toNat < 7))
    (hbin : s.io.bin = .byte b :: rest) :
    blockStep s = some (.next { s with
      io.bin := rest, h.buf := s.h.buf.setIfInBounds s.h.idx.toNat b, h.idx := s.h.idx + 1 }) := by
  rcases hphase with ⟨hfsm, hidx⟩ | ⟨hfsm, hidx⟩
  exacts [(decHdrByteStep s b rest hfsm hbin).1 hidx, (decGeomByteStep s b rest hfsm hbin).1 hidx]

/-- From index 0, the bytes before the last one of a record end up in the buffer in order. -/
theorem runs_storing {bs : List Byte} {rest : List Token} {s : State} (hempty : s.host.agenda = [])
    (hphase : (s.h.fsm = .decHdr ∧ bs.length ≤ 8) ∨ (s.h.fsm = .decGeom ∧ bs.length ≤ 7))
    (hbin : s.io.bin = asTokens bs ++ rest) (hidx : s.h.idx = 0) :
    ∃ buf : Vector Byte 9, (∀ (i : Nat) (hi : i < bs.length) (hi9 : i < 9), buf[i] = bs[i])
      ∧ Runs bs.length s { s with io.bin := rest, h.buf := buf, h.idx := BitVec.ofNat 4 bs.length } := by
  induction bs using List.reverseRecOn generalizing rest with
  | nil =>
    refine ⟨s.h.buf, nofun, ?_⟩
    have hsame : { s with io.bin := rest, h.buf := s.h.buf, h.idx := BitVec.ofNat 4 0 } = s := by
      rw [show rest = s.io.bin from hbin.symm]
      exact congrArg (fun i => { s with h.idx := i }) hidx.symm
    exact hsame ▸ runs_zero s
  | append_singleton bs b ih =>
    rw [List.length_append, List.length_singleton] at hphase
    obtain ⟨buf, hbuf, hrun⟩ := ih (rest := .byte b :: rest)
      (hphase.imp (And.imp_right Nat.le_of_succ_le) (And.imp_right Nat.le_of_succ_le))
      (by rw [hbin, asTokens, asTokens, List.map_append, List.append_assoc]; rfl)
    have hlen : bs.length < 9 := by omega
    have hcount := idx_ofNat_toNat (k := bs.length) (by omega)
    have hstep := blockStep_storesByte
      (s := { s with io.bin := .byte b :: rest, h.buf := buf, h.idx := BitVec.ofNat 4 bs.length }) (b := b) (rest := rest)
      (by rw [hcount]; exact hphase) rfl
    refine ⟨buf.setIfInBounds bs.length b, fun i hi hi9 => ?_, ?_⟩
    · rw [List.length_append, List.length_singleton] at hi
      rw [Vector.getElem_setIfInBounds hi9, List.getElem_append]
      by_cases hlast : bs.length = i
      · simp [hlast]
      · rw [if_neg hlast, dif_pos (by omega)]
        exact hbuf i (by omega) hi9
    · rw [hcount] at hstep
      have hnext := hrun.snoc hempty hstep
      dsimp only at hnext
      rwa [ofNat_add_one, ← List.length_singleton (a := b), ← List.length_append] at hnext

end Sys2Proof.Machine
end


section
/-! The header commands and the ends of a stream inside a record's fixed bytes: ENC_HEADER and DEC_HEADER in closed form, the
header round trip, and DEC_RECORD cut off before its payload (spec/40_header_marshaller.md sections 2 and 3,
spec/41_sub_image_framer.md section 3). -/

namespace Sys2Proof.Machine

/-! ### ENC_HEADER -/

/-- The state in which an accepted command of IDLE starts the phase `p` (R121, R123, R147, R202). -/
def State.started (s : State) (ie : Bool) (p : Phase) : State :=
  { s with regs.ie := ie, regs.eos := false, regs.done := false, h.idx := 0, h.fsm := p }

/-- ENC_HEADER from its start to its end (R122). -/
theorem runs_encHeader {s : State} (hidle : s.h.fsm = .idle) (hempty : s.host.agenda = []) (ie : Bool) :
    Runs 9 (s.started ie .encHdr) { s with
      regs.ie := ie, regs.eos := false, regs.done := true, h.idx := 9
      io.bout := s.io.bout ++ headerBytes s.regs.hdrVersion s.regs.hdrIdent s.regs.hdrSleep } := by
  let a := s.started ie .encHdr
  let bytes := headerBytes s.regs.hdrVersion s.regs.hdrIdent s.regs.hdrSleep
  have height : Runs 8 a { a with io.bout := a.io.bout ++ bytes.take 8, h.idx := BitVec.ofNat 4 8 } :=
    runs_of_emits (s := a) (emits_encHdr rfl) hempty (show 9 ≤ 16 by decide) (show 8 < 9 by decide) rfl
  obtain ⟨b, hb, hlast⟩ := encHdrStep { a with io.bout := a.io.bout ++ bytes.take 8, h.idx := BitVec.ofNat 4 8 } rfl
    (show 8 < 9 by decide)
  have hbytes : bytes.take 8 ++ [b] = bytes := by
    cases hb
    rfl
  have hrun := height.snoc hempty hlast
  dsimp only at hrun
  rw [List.append_assoc, hbytes] at hrun
  have hend : { s with regs.ie := ie, regs.eos := false, regs.done := true, h.idx := 9, io.bout := s.io.bout ++ bytes }
      = { s with
          regs.ie := ie, regs.eos := false, regs.done := true, h.idx := 9, h.fsm := .idle
          io.bout := s.io.bout ++ bytes } := by
    rw [← hidle]
  rw [hend]
  exact hrun

/-- Settles O28: acceptance starts ENC_HDR, and nine steps emit the nine bytes. -/
theorem encHeaderEmitsNineBytes : Obligations.EncHeaderEmitsNineBytes :=
  fun s ie hidle hempty => ⟨_, (multiStepCommandsStart s ie hidle).1, runs_encHeader hidle hempty ie⟩

/-! ### DEC_HEADER -/

/-- The four bytes of a 32-bit field put together again (R98). -/
theorem word_of_bytes (w : Word) :
    w.extractLsb' 24 8 ++ w.extractLsb' 16 8 ++ w.extractLsb' 8 8 ++ w.extractLsb' 0 8 = w :=
  (le32_eq_append _ _ _ _).symm.trans (le32_byteK w)

/-- DEC_HEADER from its start to its end: the version decides which (R124, R126). -/
theorem runs_decHeader {s : State} {version : Byte} {identifier sleepSeconds : Word} {rest : List Token}
    (hempty : s.host.agenda = [])
    (hbin : s.io.bin = asTokens (headerBytes version identifier sleepSeconds) ++ rest) (ie : Bool) :
    ∃ buf, Runs 9 (s.started ie .decHdr) { s with
      io.bin := rest, h.buf := buf, h.idx := 9, h.fsm := if version = 1 then .idle else .error
      regs.ie := ie, regs.eos := false, regs.done := version == 1
      regs.err := if version = 1 then s.regs.err else .unsupportedVersion
      regs.hdrVersion := version, regs.hdrIdent := identifier, regs.hdrSleep := sleepSeconds } := by
  let last := sleepSeconds.extractLsb' 24 8
  obtain ⟨buf, hbuf, height⟩ := runs_storing (s := s.started ie .decHdr)
    (bs := (headerBytes version identifier sleepSeconds).take 8) (rest := .byte last :: rest) hempty
    (.inl ⟨rfl, Nat.le_refl 8⟩) hbin rfl
  have hlast := (decHdrByteStep { s.started ie .decHdr with
    io.bin := .byte last :: rest, h.buf := buf, h.idx := BitVec.ofNat 4 8 } last rest rfl rfl).2 rfl
  have hlen : 8 = ((headerBytes version identifier sleepSeconds).take 8).length := rfl
  have h0 : buf[0] = version := hbuf 0 (by rw [← hlen]; decide) (by decide)
  have hident : buf[4] ++ buf[3] ++ buf[2] ++ buf[1] = identifier := by
    rw [hbuf 4 (by rw [← hlen]; decide), hbuf 3 (by rw [← hlen]; decide), hbuf 2 (by rw [← hlen]; decide),
      hbuf 1 (by rw [← hlen]; decide)]
    exact word_of_bytes identifier
  have hsleep : last ++ buf[7] ++ buf[6] ++ buf[5] = sleepSeconds := by
    rw [hbuf 7 (by rw [← hlen]; decide), hbuf 6 (by rw [← hlen]; decide), hbuf 5 (by rw [← hlen]; decide)]
    exact word_of_bytes sleepSeconds
  have hdone : (if version = 1 then true else false) = (version == 1) := by
    cases h : version == 1 <;> simpa using h
  have hrun := height.snoc hempty hlast
  dsimp only at hrun
  rw [h0, hident, hsleep] at hrun
  refine ⟨buf.setIfInBounds 8 last, ?_⟩
  rw [← hdone]
  exact hrun

/-- Settles O29: the run above, its end read field by field. -/
theorem decHeaderLoadsNineBytes : Obligations.DecHeaderLoadsNineBytes := by
  intro s ie version identifier sleepSeconds rest hidle hempty hbin
  obtain ⟨buf, hrun⟩ := runs_decHeader hempty hbin ie
  exact ⟨_, _, (multiStepCommandsStart s ie hidle).2.1, hrun, rfl, rfl, rfl, rfl, rfl⟩

/-- Settles O30: the bytes before `End` are stored, and `End` fails the command before any register is loaded. -/
theorem decHeaderTruncated : Obligations.DecHeaderTruncated := by
  intro s ie bs rest hidle hempty hlen hbin
  obtain ⟨buf, -, hstored⟩ := runs_storing (s := s.started ie .decHdr) hempty (.inl ⟨rfl, Nat.le_of_lt_succ hlen⟩) hbin rfl
  have hend := endTokenTruncates { s.started ie .decHdr with
    io.bin := .endOfStream :: rest, h.buf := buf, h.idx := BitVec.ofNat 4 bs.length } rest (.inl rfl) rfl
  exact ⟨_, _, (multiStepCommandsStart s ie hidle).2.1, hstored.snoc hempty hend, rfl, rfl, rfl, rfl, rfl⟩

/-- Settles O31: what ENC_HEADER appended is the nine bytes of its registers, which DEC_HEADER loads. -/
theorem headerRoundTrip : Obligations.HeaderRoundTrip := by
  intro s r a e ie ie' rest hidle hempty hexec hrun hidle' hempty' hbin
  obtain ⟨a', hexec', hrun'⟩ := encHeaderEmitsNineBytes s ie hidle hempty
  cases hexec.symm.trans hexec'
  obtain rfl := Runs.unique hrun hrun'
  dsimp only at hbin
  rw [List.drop_left] at hbin
  obtain ⟨c, t, hexec, hrun, hregs, hfsm, hio, -, -⟩ := decHeaderLoadsNineBytes r ie' _ _ _ rest hidle' hempty' hbin
  refine ⟨c, t, hexec, hrun, by rw [hregs], by rw [hregs], by rw [hregs], by rw [hio], fun hversion => ?_,
    fun hversion => ?_⟩
  · rw [hfsm, hregs]
    exact ⟨if_pos hversion, beq_iff_eq.mpr hversion⟩
  · rw [hfsm, hregs]
    exact ⟨if_neg hversion, if_neg hversion⟩

/-! ### DEC_RECORD before its payload -/

/-- The descriptor bytes before `End` are stored, and the index counts them. -/
theorem runs_decGeom_end {s : State} {bs : List Byte} {rest : List Token} (hempty : s.host.agenda = [])
    (hlen : bs.length ≤ 7) (hbin : s.io.bin = asTokens bs ++ .endOfStream :: rest) (ie : Bool) :
    ∃ buf, Runs bs.length (s.started ie .decGeom) { s.started ie .decGeom with
      io.bin := .endOfStream :: rest, h.buf := buf, h.idx := BitVec.ofNat 4 bs.length } := by
  obtain ⟨buf, -, hstored⟩ := runs_storing (s := s.started ie .decGeom) hempty (.inr ⟨rfl, hlen⟩) hbin rfl
  exact ⟨buf, hstored⟩

/-- Settles O35: with at most one byte stored, `End` is the clean end. -/
theorem decRecordCleanEnd : Obligations.DecRecordCleanEnd := by
  intro s ie bs rest hidle hempty hlen hbin
  obtain ⟨buf, hstored⟩ := runs_decGeom_end hempty (Nat.le_trans hlen (by decide)) hbin ie
  have hcount := idx_ofNat_toNat (k := bs.length) (by omega)
  have hend := (decGeomEndStep { s.started ie .decGeom with
    io.bin := .endOfStream :: rest, h.buf := buf, h.idx := BitVec.ofNat 4 bs.length } rest rfl rfl).1
    (by rw [hcount]; omega)
  exact ⟨_, _, (multiStepCommandsStart s ie hidle).2.2, hstored.snoc hempty hend, rfl, rfl, rfl, rfl, rfl⟩

/-- Settles O36: with two bytes stored or more, `End` cuts the record short. -/
theorem decRecordTruncatedInDescriptor : Obligations.DecRecordTruncatedInDescriptor := by
  intro s ie bs rest hidle hempty htwo hlen hbin
  obtain ⟨buf, hstored⟩ := runs_decGeom_end hempty hlen hbin ie
  have hcount := idx_ofNat_toNat (k := bs.length) (by omega)
  have hend := (decGeomEndStep { s.started ie .decGeom with
    io.bin := .endOfStream :: rest, h.buf := buf, h.idx := BitVec.ofNat 4 bs.length } rest rfl rfl).2
    (by rw [hcount]; exact htwo)
  exact ⟨_, _, (multiStepCommandsStart s ie hidle).2.2, hstored.snoc hempty hend, rfl, rfl, rfl, rfl, rfl⟩

end Sys2Proof.Machine
end


section
/-! ENC_RECORD in closed form: the descriptor, and then the pixels, sample `k` at column `k mod W` of row `k div W`
(spec/41_sub_image_framer.md section 2). -/

namespace Sys2Proof.Machine

/-! ### Row-major order -/

/-- The place after one that is not the last of its row. -/
theorem rowMajor_next_col {k n : Nat} (hcol : k % n + 1 < n) : (k + 1) % n = k % n + 1 ∧ (k + 1) / n = k / n := by
  have hk : k + 1 = n * (k / n) + (k % n + 1) := by rw [← Nat.add_assoc, Nat.div_add_mod]
  constructor
  · rw [hk, Nat.mul_add_mod, Nat.mod_eq_of_lt hcol]
  · rw [hk, Nat.mul_add_div (by omega), Nat.div_eq_of_lt hcol, Nat.add_zero]

/-- The place after the last of a row. -/
theorem rowMajor_next_row {k n : Nat} (hn : 0 < n) (hcol : k % n + 1 = n) :
    (k + 1) % n = 0 ∧ (k + 1) / n = k / n + 1 ∧ k + 1 = n * (k / n + 1) := by
  have hk : k + 1 = n * (k / n + 1) := by
    rw [Nat.mul_add_one, ← Nat.div_add_mod k n, Nat.add_assoc, hcol, Nat.div_add_mod]
  exact ⟨by rw [hk, Nat.mul_mod_right], by rw [hk, Nat.mul_div_cancel_left _ hn], hk⟩

/-- A place in an image is in one of its rows, and its column is in the row. -/
theorem rowMajor_bounds {k n rows : Nat} (hk : k < n * rows) : 0 < n ∧ k % n < n ∧ k / n < rows := by
  have hn : 0 < n := Nat.pos_of_ne_zero fun h => by rw [h, Nat.zero_mul] at hk; omega
  exact ⟨hn, Nat.mod_lt k hn, Nat.div_lt_of_lt_mul hk⟩

/-- The place after one inside an image is inside it too, or is the end of its last row. -/
theorem rowMajor_last_iff {k n rows : Nat} (hk : k < n * rows) : k + 1 = n * rows ↔ k % n + 1 = n ∧ k / n + 1 = rows := by
  obtain ⟨hn, hcol, hrow⟩ := rowMajor_bounds hk
  constructor
  · intro hlast
    have hend : k % n + 1 = n := by
      by_contra hne
      obtain ⟨hmod, -⟩ := rowMajor_next_col (k := k) (n := n) (by omega)
      rw [hlast, Nat.mul_mod_right] at hmod
      cases hmod
    obtain ⟨-, -, heq⟩ := rowMajor_next_row hn hend
    exact ⟨hend, Nat.eq_of_mul_eq_mul_left hn (heq.symm.trans hlast)⟩
  · rintro ⟨hend, hrows⟩
    rw [(rowMajor_next_row hn hend).2.2, hrows]

/-! ### A scan of `total` places -/

/-- What a chain of steps of a scan from `s` on leaves: the streams `io`, and either the scan at place `k`, as `At` says it,
with the registers as they were, or the command completed when `k` is the number of places (R206). -/
structure ScannedTo (At : Nat → State → Prop) (total k : Nat) (io : Streams) (s t : State) : Prop where
  io_eq : t.io = io
  host_eq : t.host = s.host
  extentMode_eq : t.extentMode = s.extentMode
  inside : k < total → At k t ∧ t.regs = s.regs
  ended : k = total → t.h.fsm = .idle ∧ t.regs = { s.regs with done := true }

/-- Two chains one after the other, the first of which stops before the last place. -/
theorem ScannedTo.trans {At : Nat → State → Prop} {total j k : Nat} {io io' : Streams} {s t u : State}
    (hto : ScannedTo At total j io s u) (hj : j < total) (hto' : ScannedTo At total k io' u t) :
    ScannedTo At total k io' s t := by
  obtain ⟨-, hregs⟩ := hto.inside hj
  exact ⟨hto'.io_eq, hto'.host_eq.trans hto.host_eq, hto'.extentMode_eq.trans hto.extentMode_eq,
    by rw [← hregs]; exact hto'.inside, by rw [← hregs]; exact hto'.ended⟩

/-! ### The scan of the encoder -/

/-- The encoder is about to take sample number `k` (R145). -/
structure SampleAt (k : Nat) (s : State) : Prop where
  fsm : s.h.fsm = .encPix
  col : s.h.col.toNat = k % s.regs.w.toNat
  row : s.h.row.toNat = k / s.regs.w.toNat

/-- What a chain of steps of the encoder's scan from `s` on leaves. -/
abbrev EncodedTo (k : Nat) (io : Streams) (s t : State) : Prop :=
  ScannedTo SampleAt (s.regs.w.toNat * s.regs.ht.toNat) k io s t

/-- Two chains one after the other, the first of which stops inside the image. -/
theorem EncodedTo.trans {j k : Nat} {io io' : Streams} {s t u : State} (hto : EncodedTo j io s u)
    (hj : j < s.regs.w.toNat * s.regs.ht.toNat) (hto' : EncodedTo k io' u t) : EncodedTo k io' s t := by
  obtain ⟨-, hregs⟩ := hto.inside hj
  rw [EncodedTo, hregs] at hto'
  exact ScannedTo.trans hto hj hto'

/-- One sample: held at an even place, emitted with the held one at an odd place; and the scan goes on (R145). -/
theorem encodes_sample {k : Nat} {s : State} {p : Byte} {rest : List Byte} (hat : SampleAt k s)
    (hk : k < s.regs.w.toNat * s.regs.ht.toNat) (heven : s.regs.w.toNat % 2 = 0) (hpin : s.io.pin = p :: rest) :
    ∃ t, blockStep s = some (.next t)
      ∧ EncodedTo (k + 1) { s.io with
          pin := rest, bout := if k % 2 = 0 then s.io.bout else s.io.bout ++ [p.extractLsb' 4 4 ++ s.h.hold] } s t
      ∧ t.h.hold = if k % 2 = 0 then p.extractLsb' 4 4 else s.h.hold := by
  obtain ⟨hn, hcol, hrow⟩ := rowMajor_bounds hk
  have hparity : s.h.col.toNat % 2 = k % 2 := by
    rw [hat.col, Nat.mod_mod_of_dvd k (Nat.dvd_of_mod_eq_zero heven)]
  have hcol1 : (s.h.col + 1).toNat = k % s.regs.w.toNat + 1 := by
    rw [toNat_add_one_of_lt (b := s.regs.w) (by rw [hat.col]; exact hcol), hat.col]
  have hrow1 : (s.h.row + 1).toNat = k / s.regs.w.toNat + 1 := by
    rw [toNat_add_one_of_lt (b := s.regs.ht) (by rw [hat.row]; exact hrow), hat.row]
  have hcolEnd : s.h.col + 1 = s.regs.w ↔ k % s.regs.w.toNat + 1 = s.regs.w.toNat := by
    rw [BitVec.toNat_eq, hcol1]
  have hrowEnd : s.h.row + 1 = s.regs.ht ↔ k / s.regs.w.toNat + 1 = s.regs.ht.toNat := by
    rw [BitVec.toNat_eq, hrow1]
  have hnextCol : (if s.h.col + 1 = s.regs.w then 0 else s.h.col + 1).toNat = (k + 1) % s.regs.w.toNat := by
    split
    · next hend => rw [(rowMajor_next_row hn (hcolEnd.mp hend)).1]; rfl
    · next hend => rw [hcolEnd] at hend; rw [hcol1, (rowMajor_next_col (by omega)).1]
  have hnextRow : (if s.h.col + 1 = s.regs.w then s.h.row + 1 else s.h.row).toNat = (k + 1) / s.regs.w.toNat := by
    split
    · next hend => rw [(rowMajor_next_row hn (hcolEnd.mp hend)).2.1, hrow1]
    · next hend => rw [hcolEnd] at hend; rw [hat.row, (rowMajor_next_col (by omega)).2]
  have hlast : s.h.col + 1 = s.regs.w ∧ s.h.row + 1 = s.regs.ht ↔ k + 1 = s.regs.w.toNat * s.regs.ht.toNat := by
    rw [hcolEnd, hrowEnd, rowMajor_last_iff hk]
  have hstep := encPixStep.2 s p rest hat.fsm hpin
  rw [hparity] at hstep
  refine ⟨_, hstep, ⟨rfl, rfl, rfl, fun hinside => ?_, fun hended => ?_⟩, rfl⟩
  · have hnot := mt hlast.mp (Nat.ne_of_lt hinside)
    exact ⟨⟨if_neg hnot, hnextCol, hnextRow⟩, congrArg (fun d => { s.regs with done := d }) (if_neg hnot)⟩
  · have hboth := hlast.mpr hended
    exact ⟨if_pos hboth, congrArg (fun d => { s.regs with done := d }) (if_pos hboth)⟩

/-- A pair of samples from an even place on: the left one is held, and the right one completes the byte (R145). -/
theorem encodes_pair {k : Nat} {s : State} {left right : Byte} {rest : List Byte} (hat : SampleAt k s)
    (hk : k + 2 ≤ s.regs.w.toNat * s.regs.ht.toNat) (heven : s.regs.w.toNat % 2 = 0) (hkEven : k % 2 = 0)
    (hempty : s.host.agenda = []) (hpin : s.io.pin = left :: right :: rest) :
    ∃ t, Runs 2 s t
      ∧ EncodedTo (k + 2) { s.io with pin := rest, bout := s.io.bout ++ [payloadByte left right] } s t := by
  obtain ⟨u, hstep, hto, hhold⟩ := encodes_sample hat (by omega) heven hpin
  obtain ⟨hatu, hregs⟩ := hto.inside (by omega)
  have hio := hto.io_eq
  rw [if_pos hkEven] at hio hhold
  obtain ⟨t, hstep', hto', -⟩ := encodes_sample hatu (by rw [hregs]; omega) (by rw [hregs]; exact heven) (by rw [hio])
  rw [if_neg (by omega), hhold, hio] at hto'
  refine ⟨t, (runs_one_of_blockStep hempty hstep).snoc (by rw [hto.host_eq]; exact hempty) hstep', ?_⟩
  exact hto.trans (by omega) hto'

/-- No sample makes no byte. -/
theorem payloadBytes_nil : payloadBytes [] = [] := rfl

/-- A single sample makes no byte yet. -/
theorem payloadBytes_singleton (p : Byte) : payloadBytes [p] = [] := rfl

/-- A whole list of samples from an even place on: one byte for each pair, and a last single sample is held (R145,
R146). -/
theorem encodes_samples {samples rest : List Byte} {k : Nat} {s : State} (hat : SampleAt k s)
    (hk : k < s.regs.w.toNat * s.regs.ht.toNat) (heven : s.regs.w.toNat % 2 = 0) (hkEven : k % 2 = 0)
    (hempty : s.host.agenda = []) (hpin : s.io.pin = samples ++ rest)
    (hlen : k + samples.length ≤ s.regs.w.toNat * s.regs.ht.toNat) :
    ∃ t, Runs samples.length s t
      ∧ EncodedTo (k + samples.length) { s.io with pin := rest, bout := s.io.bout ++ payloadBytes samples } s t := by
  induction samples using payloadBytes.induct generalizing k s with
  | case1 left right more ih =>
    rw [List.length_cons, List.length_cons] at hlen ⊢
    obtain ⟨u, hrun, hto⟩ := encodes_pair hat (by omega) heven hkEven hempty hpin
    rcases Nat.lt_or_ge (k + 2) (s.regs.w.toNat * s.regs.ht.toNat) with hinside | hend
    · obtain ⟨hatu, hregs⟩ := hto.inside hinside
      obtain ⟨t, hrun', hto'⟩ := ih hatu (by rw [hregs]; exact hinside) (by rw [hregs]; exact heven) (by omega)
        (by rw [hto.host_eq]; exact hempty) (by rw [hto.io_eq]; rfl) (by rw [hregs]; omega)
      rw [hto.io_eq, List.append_assoc, show k + 2 + more.length = k + (more.length + 1 + 1) by omega] at hto'
      exact ⟨t, by rw [show more.length + 1 + 1 = 2 + more.length by omega]; exact hrun.trans hrun', hto.trans hinside hto'⟩
    · obtain rfl : more = [] := List.eq_nil_of_length_eq_zero (by omega)
      exact ⟨u, hrun, hto⟩
  | case2 samples hshort =>
    match samples, hshort with
    | [], _ =>
      refine ⟨s, runs_zero s, ⟨?_, rfl, rfl, fun _ => ⟨hat, rfl⟩, fun hend => absurd hend (Nat.ne_of_lt hk)⟩⟩
      rw [payloadBytes_nil, List.append_nil, show rest = s.io.pin from hpin.symm]
    | [p], _ =>
      obtain ⟨t, hstep, hto, -⟩ := encodes_sample hat hk heven hpin
      rw [if_pos hkEven] at hto
      refine ⟨t, runs_one_of_blockStep hempty hstep, ?_⟩
      rwa [payloadBytes_singleton, List.append_nil]
    | left :: right :: more, hshort => exact absurd rfl (hshort left right more)

/-! ### ENC_RECORD -/

/-- The state in which ENC_RECORD starts a legal image (R142, R202). -/
def State.recordStarted (s : State) (ie : Bool) : State := ((s.setIe ie).clearEnded).startRecord

/-- ENC_RECORD of a legal image starts (R142). -/
theorem exec_encRecord_legal {s : State} (hidle : s.h.fsm = .idle) (hw : s.regs.w.toNat ≤ 960)
    (hht : s.regs.ht.toNat ≤ 540) (heven : s.regs.w.toNat % 2 = 0) (ie : Bool) :
    exec (.encRecord ie) s = .next (s.recordStarted ie) := by
  rw [exec_accepted .encRecord hidle, encRecordBody_legal (s := (s.setIe ie).clearEnded) hw hht heven]
  rfl

/-- An image has no pixel exactly when a side of it is 0. -/
theorem eq_zero_or_eq_zero_iff (w ht : Half) : w = 0 ∨ ht = 0 ↔ w.toNat * ht.toNat = 0 := by
  rw [Nat.mul_eq_zero, BitVec.toNat_eq, BitVec.toNat_eq]
  rfl

/-- The descriptor from its first byte to its last; an image without a pixel ends there (R143, R144). -/
theorem runs_encGeom {s : State} (hempty : s.host.agenda = []) (ie : Bool) :
    ∃ t, Runs 8 (s.recordStarted ie) t
      ∧ EncodedTo 0 { s.io with bout := s.io.bout ++ geometryBytes s.regs.x0 s.regs.y0 s.regs.w s.regs.ht }
          (s.recordStarted ie) t := by
  let a := s.recordStarted ie
  let bytes := geometryBytes s.regs.x0 s.regs.y0 s.regs.w s.regs.ht
  have hseven : Runs 7 a { a with io.bout := a.io.bout ++ bytes.take 7, h.idx := BitVec.ofNat 4 7 } :=
    runs_of_emits (s := a) (emits_encGeom rfl) hempty (show 8 ≤ 16 by decide) (show 7 < 8 by decide) rfl
  obtain ⟨b, hb, hlast⟩ := encGeomStep { a with io.bout := a.io.bout ++ bytes.take 7, h.idx := BitVec.ofNat 4 7 } rfl
    (show 7 < 8 by decide)
  have hbytes : bytes.take 7 ++ [b] = bytes := by
    cases hb
    rfl
  have hrun := hseven.snoc hempty hlast
  dsimp only at hrun
  rw [List.append_assoc, hbytes] at hrun
  have hnoPixel := eq_zero_or_eq_zero_iff s.regs.w s.regs.ht
  refine ⟨_, hrun, ⟨rfl, rfl, rfl, fun hinside => ?_, fun hended => ?_⟩⟩
  · have hnot : ¬ (s.regs.w = 0 ∨ s.regs.ht = 0) := mt hnoPixel.mp (Nat.ne_of_gt hinside)
    have hphase : (if s.regs.w = 0 ∨ s.regs.ht = 0 then Phase.idle else .encPix) = .encPix := if_neg hnot
    exact ⟨⟨hphase, (Nat.zero_mod _).symm, (Nat.zero_div _).symm⟩,
      congrArg (fun d => { a.regs with done := d }) (if_neg fun h => hnot h.2)⟩
  · have hzero : s.regs.w = 0 ∨ s.regs.ht = 0 := hnoPixel.mpr hended.symm
    have hphase : (if s.regs.w = 0 ∨ s.regs.ht = 0 then Phase.idle else .encPix) = .idle := if_pos hzero
    exact ⟨hphase, congrArg (fun d => { a.regs with done := d }) (if_pos ⟨rfl, hzero⟩)⟩

/-- ENC_RECORD from its start on as many samples as there are, up to the number of its pixels (R143 to R146). -/
theorem runs_encRecord {s : State} {samples rest : List Byte} (hempty : s.host.agenda = [])
    (heven : s.regs.w.toNat % 2 = 0) (hlen : samples.length ≤ s.regs.w.toNat * s.regs.ht.toNat)
    (hpin : s.io.pin = samples ++ rest) (ie : Bool) :
    ∃ t, Runs (8 + samples.length) (s.recordStarted ie) t
      ∧ EncodedTo samples.length { s.io with
          pin := rest
          bout := s.io.bout ++ geometryBytes s.regs.x0 s.regs.y0 s.regs.w s.regs.ht ++ payloadBytes samples }
          (s.recordStarted ie) t := by
  obtain ⟨u, hrun, hto⟩ := runs_encGeom hempty ie
  rcases Nat.eq_zero_or_pos (s.regs.w.toNat * s.regs.ht.toNat) with hnone | hsome
  · obtain rfl : samples = [] := List.eq_nil_of_length_eq_zero (by omega)
    refine ⟨u, hrun, ?_⟩
    rw [payloadBytes_nil, List.append_nil, show rest = s.io.pin from hpin.symm]
    exact hto
  · obtain ⟨hat, hregs⟩ := hto.inside hsome
    obtain ⟨t, hrun', hto'⟩ := encodes_samples hat (by rw [hregs]; exact hsome) (by rw [hregs]; exact heven) rfl
      (by rw [hto.host_eq]; exact hempty) (by rw [hto.io_eq]; exact hpin)
      (by rw [hregs, Nat.zero_add]; exact hlen)
    rw [hto.io_eq, Nat.zero_add] at hto'
    exact ⟨t, hrun.trans hrun', hto.trans hsome hto'⟩

/-- Settles O32: with all samples there the chain ends at the last pixel. -/
theorem encRecordEmitsDescriptorAndPayload : Obligations.EncRecordEmitsDescriptorAndPayload := by
  intro s ie samples rest hidle hempty hw hht heven hlen hpin
  obtain ⟨t, hrun, hto⟩ := runs_encRecord hempty heven (Nat.le_of_eq hlen) hpin ie
  obtain ⟨hfsm, hregs⟩ := hto.ended hlen
  have hpay := startRecord_payLen_toNat (s := (s.setIe ie).clearEnded) hw hht
  refine ⟨_, t, exec_encRecord_legal hidle hw hht heven ie, hrun, ?_, ?_, hfsm, hto.io_eq, hto.host_eq, hto.extentMode_eq⟩
  · rw [hregs]
    rfl
  · rw [hregs]
    exact hpay

/-- Settles O33: with too few samples the chain stops inside the image, where PIN is empty and no step is enabled. -/
theorem encRecordHoldsWithoutSamples : Obligations.EncRecordHoldsWithoutSamples := by
  intro s ie hidle herr hempty hw hht heven hlen
  obtain ⟨t, hrun, hto⟩ := runs_encRecord hempty heven (Nat.le_of_lt hlen) (List.append_nil s.io.pin).symm ie
  obtain ⟨hat, hregs⟩ := hto.inside hlen
  have hagenda : t.host.agenda = [] := by rw [hto.host_eq]; exact hempty
  have hpin : t.io.pin = [] := by rw [hto.io_eq]
  have hnone : t.blockEnabled = false := (noStepIsEnabledExactlyWhen t).mpr (.inr (.inr (.inl ⟨hat.fsm, hpin⟩)))
  have hdone : t.programDone = true := programDone_iff.mpr (by rw [hagenda]; nofun)
  refine ⟨_, t, exec_encRecord_legal hidle hw hht heven ie, hrun, hat.fsm, ?_, ?_, hpin,
    ⟨⟨hdone, hnone⟩, .inl hat.fsm⟩, ?_, ?_⟩
  · rw [busy_iff, hat.fsm]
    exact ⟨nofun, nofun⟩
  · rw [hregs]
    exact herr
  · rw [step_empty hagenda, blockTurn_of_not_enabled hnone]
  · rw [hto.io_eq]

end Sys2Proof.Machine
end


section
/-! DEC_RECORD in closed form: the descriptor, and then the payload, byte `k` at column pair `k mod n` of row `k div n` of the
window, `n` the bytes of a row (spec/41_sub_image_framer.md section 3). -/

namespace Sys2Proof.Machine

/-! ### The scan of the decoder -/

/-- The window of a record, in numbers: its origin has 16 bits, and its sides are at most 65535 (R150). -/
structure Window.InRange (v : Window) : Prop where
  xs_le : v.xs.toNat ≤ 65535
  ys_le : v.ys.toNat ≤ 65535
  xe_le : v.xe.toNat ≤ v.xs.toNat + 65535
  ye_le : v.ye.toNat ≤ v.ys.toNat + 65535

/-- Every record's window is in this range (R150). -/
theorem scanWindow_inRange (m : ExtentMode) (x0 y0 w ht : Half) : (scanWindow m x0 y0 w ht).InRange where
  xs_le := by
    have hx0 := x0.isLt
    rw [scanWindow_xs_toNat]
    omega
  ys_le := by
    have hy0 := y0.isLt
    rw [scanWindow_ys_toNat]
    omega
  xe_le := scanWindow_xe_le m x0 y0 w ht
  ye_le := scanWindow_ye_le m x0 y0 w ht

/-- The decoder is about to take payload byte number `k` of the window `v` (R152). -/
structure ByteAt (v : Window) (k : Nat) (s : State) : Prop where
  fsm : s.h.fsm = .decPix
  xs : s.h.xs = v.xs
  xe : s.h.xe = v.xe
  ye : s.h.ye = v.ye
  dx : s.h.dx.toNat = v.xs.toNat + 2 * (k % bytesPerRow v)
  dy : s.h.dy.toNat = v.ys.toNat + k / bytesPerRow v

/-- A number below `2^17` added to a coordinate without a wrap. -/
theorem coord_eq_add {a c : Coord} {n : Nat} (ha : a.toNat = c.toNat + n) : a = c + BitVec.ofNat 17 n := by
  have hlt := a.isLt
  apply BitVec.eq_of_toNat_eq
  rw [BitVec.toNat_add, BitVec.toNat_ofNat, Nat.add_mod_mod, ← ha, Nat.mod_eq_of_lt hlt]

/-- One payload byte: its two pixels where byte `k` belongs; and the scan goes on (R152). -/
theorem decodes_byte {v : Window} {k : Nat} {s : State} {b : Byte} {rest : List Token} (hv : v.InRange)
    (hat : ByteAt v k s) (hk : k < bytesPerRow v * windowRows v) (hbin : s.io.bin = .byte b :: rest) :
    ∃ t, blockStep s = some (.next t)
      ∧ ScannedTo (ByteAt v) (bytesPerRow v * windowRows v) (k + 1) { s.io with
          bin := rest, pout := s.io.pout ++ writesOfByte v.xs v.ys (bytesPerRow v) k b } s t := by
  obtain ⟨hn, hcol, hrow⟩ := rowMajor_bounds hk
  obtain ⟨hxs, hys, hxe, hye⟩ := hv
  have hbpr := bytesPerRow_eq v
  have hrows := windowRows_eq v
  have hdx2 : (s.h.dx + 2).toNat = s.h.dx.toNat + 2 := by
    have := hat.dx
    bv_omega
  have hdy1 : (s.h.dy + 1).toNat = s.h.dy.toNat + 1 := by
    have := hat.dy
    bv_omega
  have hcolEnd : s.h.xe ≤ s.h.dx + 2 ↔ k % bytesPerRow v + 1 = bytesPerRow v := by
    rw [BitVec.le_def, hdx2, hat.xe, hat.dx]
    omega
  have hrowEnd : s.h.ye ≤ s.h.dy + 1 ↔ k / bytesPerRow v + 1 = windowRows v := by
    rw [BitVec.le_def, hdy1, hat.ye, hat.dy]
    generalize k / bytesPerRow v = row at hrow ⊢
    omega
  have hnextDx : (if s.h.xe ≤ s.h.dx + 2 then s.h.xs else s.h.dx + 2).toNat
      = v.xs.toNat + 2 * ((k + 1) % bytesPerRow v) := by
    split
    · next hend => rw [(rowMajor_next_row hn (hcolEnd.mp hend)).1, hat.xs]; rfl
    · next hend => rw [hcolEnd] at hend; rw [hdx2, hat.dx, (rowMajor_next_col (by omega)).1]; omega
  have hnextDy : (if s.h.xe ≤ s.h.dx + 2 then s.h.dy + 1 else s.h.dy).toNat = v.ys.toNat + (k + 1) / bytesPerRow v := by
    split
    · next hend => rw [(rowMajor_next_row hn (hcolEnd.mp hend)).2.1, hdy1, hat.dy]; omega
    · next hend => rw [hcolEnd] at hend; rw [hat.dy, (rowMajor_next_col (by omega)).2]
  have hlast : s.h.xe ≤ s.h.dx + 2 ∧ s.h.ye ≤ s.h.dy + 1 ↔ k + 1 = bytesPerRow v * windowRows v := by
    rw [hcolEnd, hrowEnd, rowMajor_last_iff hk]
  have hwrites : writesOfByte v.xs v.ys (bytesPerRow v) k b
      = [{ x := s.h.dx, y := s.h.dy, v := b.extractLsb' 0 4 ++ 0#4 },
        { x := s.h.dx + 1, y := s.h.dy, v := b.extractLsb' 4 4 ++ 0#4 }] := by
    rw [coord_eq_add hat.dx, coord_eq_add hat.dy]
    rfl
  rw [hwrites]
  refine ⟨_, decPixByteStep s b rest hat.fsm hbin, ⟨rfl, rfl, rfl, fun hinside => ?_, fun hended => ?_⟩⟩
  · have hnot := mt hlast.mp (Nat.ne_of_lt hinside)
    exact ⟨⟨if_neg hnot, hat.xs, hat.xe, hat.ye, hnextDx, hnextDy⟩,
      congrArg (fun d => { s.regs with done := d }) (if_neg hnot)⟩
  · have hboth := hlast.mpr hended
    exact ⟨if_pos hboth, congrArg (fun d => { s.regs with done := d }) (if_pos hboth)⟩

/-- The pixel writes of payload bytes from number `k` on, in order (R152). -/
def writesFrom (v : Window) (k : Nat) (bs : List Byte) : List PixelWrite :=
  ((bs.zipIdx k).map fun p => writesOfByte v.xs v.ys (bytesPerRow v) p.2 p.1).flatten

/-- The writes of a payload are those of its first byte and then those of the others. -/
theorem writesFrom_cons (v : Window) (k : Nat) (b : Byte) (bs : List Byte) :
    writesFrom v k (b :: bs) = writesOfByte v.xs v.ys (bytesPerRow v) k b ++ writesFrom v (k + 1) bs := rfl

/-- A list of payload bytes from number `k` on (R152). -/
theorem decodes_bytes {v : Window} {bs : List Byte} {rest : List Token} {k : Nat} {s : State} (hv : v.InRange)
    (hat : ByteAt v k s) (hk : k < bytesPerRow v * windowRows v) (hempty : s.host.agenda = [])
    (hbin : s.io.bin = asTokens bs ++ rest) (hlen : k + bs.length ≤ bytesPerRow v * windowRows v) :
    ∃ t, Runs bs.length s t
      ∧ ScannedTo (ByteAt v) (bytesPerRow v * windowRows v) (k + bs.length)
          { s.io with bin := rest, pout := s.io.pout ++ writesFrom v k bs } s t := by
  induction bs generalizing k s with
  | nil =>
    refine ⟨s, runs_zero s, ⟨?_, rfl, rfl, fun _ => ⟨hat, rfl⟩, fun hend => absurd hend (Nat.ne_of_lt hk)⟩⟩
    rw [show writesFrom v k [] = [] from rfl, List.append_nil, show rest = s.io.bin from hbin.symm]
  | cons b bs ih =>
    rw [List.length_cons] at hlen ⊢
    obtain ⟨u, hstep, hto⟩ := decodes_byte hv hat hk hbin
    have hrun := runs_one_of_blockStep hempty hstep
    rcases Nat.lt_or_ge (k + 1) (bytesPerRow v * windowRows v) with hinside | hend
    · obtain ⟨hatu, -⟩ := hto.inside hinside
      obtain ⟨t, hrun', hto'⟩ := ih hatu hinside (by rw [hto.host_eq]; exact hempty) (by rw [hto.io_eq]; rfl) (by omega)
      rw [hto.io_eq, List.append_assoc, ← writesFrom_cons, Nat.add_right_comm] at hto'
      exact ⟨t, by rw [Nat.add_comm]; exact hrun.trans hrun', hto.trans hinside hto'⟩
    · obtain rfl : bs = [] := List.eq_nil_of_length_eq_zero (by omega)
      refine ⟨u, hrun, ?_⟩
      rw [writesFrom_cons, show writesFrom v (k + 1) [] = [] from rfl, List.append_nil]
      exact hto

/-! ### DEC_RECORD -/

/-- The two bytes of a 16-bit field put together again (R98). -/
theorem half_of_bytes (h : Half) : h.extractLsb' 8 8 ++ h.extractLsb' 0 8 = h :=
  (le16_eq_append _ _).symm.trans (le16_byteK h)

/-- The state of an accepted DEC_RECORD with the registers of a descriptor loaded (R148, R202). -/
def State.recordLoaded (s : State) (ie : Bool) (x0 y0 w ht : Half) : State :=
  { s with
    regs.ie := ie, regs.eos := false, regs.done := false, regs.x0 := x0, regs.y0 := y0, regs.w := w, regs.ht := ht
    regs.payLen := payLenOf (scanWindow s.extentMode x0 y0 w ht) }

/-- The descriptor from its first byte to its last; a record without a payload ends there (R148). -/
theorem runs_decGeom {s : State} {x0 y0 w ht : Half} {v : Window} {rest : List Token} (hempty : s.host.agenda = [])
    (hv : v = scanWindow s.extentMode x0 y0 w ht) (hbin : s.io.bin = asTokens (geometryBytes x0 y0 w ht) ++ rest)
    (ie : Bool) :
    ∃ t, Runs 8 (s.started ie .decGeom) t
      ∧ ScannedTo (ByteAt v) (bytesPerRow v * windowRows v) 0 { s.io with bin := rest } (s.recordLoaded ie x0 y0 w ht) t := by
  let last := ht.extractLsb' 8 8
  obtain ⟨buf, hbuf, hseven⟩ := runs_storing (s := s.started ie .decGeom)
    (bs := (geometryBytes x0 y0 w ht).take 7) (rest := .byte last :: rest) hempty (.inr ⟨rfl, Nat.le_refl 7⟩) hbin rfl
  have hlen : 7 = ((geometryBytes x0 y0 w ht).take 7).length := rfl
  have hx0 : x0 = buf[1] ++ buf[0] := by
    rw [hbuf 1 (by rw [← hlen]; decide), hbuf 0 (by rw [← hlen]; decide)]
    exact (half_of_bytes x0).symm
  have hy0 : y0 = buf[3] ++ buf[2] := by
    rw [hbuf 3 (by rw [← hlen]; decide), hbuf 2 (by rw [← hlen]; decide)]
    exact (half_of_bytes y0).symm
  have hw : w = buf[5] ++ buf[4] := by
    rw [hbuf 5 (by rw [← hlen]; decide), hbuf 4 (by rw [← hlen]; decide)]
    exact (half_of_bytes w).symm
  have hht : ht = last ++ buf[6] := by
    rw [hbuf 6 (by rw [← hlen]; decide)]
    exact (half_of_bytes ht).symm
  have hlast := (decGeomByteStep { s.started ie .decGeom with
    io.bin := .byte last :: rest, h.buf := buf, h.idx := BitVec.ofNat 4 7 } last rest rfl rfl).2 rfl x0 y0 w ht v
      hx0 hy0 hw hht hv
  have htotal : payLenOf v = 0 ↔ bytesPerRow v * windowRows v = 0 := by
    subst hv
    rw [BitVec.toNat_eq, payLenOf_toNat]
    rfl
  refine ⟨_, hseven.snoc hempty hlast, ⟨rfl, rfl, rfl, fun hinside => ?_, fun hended => ?_⟩⟩
  · have hnot := mt htotal.mp (Nat.ne_of_gt hinside)
    have hdx : v.xs.toNat = v.xs.toNat + 2 * (0 % bytesPerRow v) := by rw [Nat.zero_mod, Nat.mul_zero, Nat.add_zero]
    have hdy : v.ys.toNat = v.ys.toNat + 0 / bytesPerRow v := by rw [Nat.zero_div, Nat.add_zero]
    refine ⟨⟨if_neg hnot, rfl, rfl, rfl, hdx, hdy⟩, ?_⟩
    subst hv
    exact congrArg (fun d => { (s.recordLoaded ie x0 y0 w ht).regs with done := d }) (if_neg hnot)
  · have hzero := htotal.mpr hended.symm
    refine ⟨if_pos hzero, ?_⟩
    subst hv
    exact congrArg (fun d => { (s.recordLoaded ie x0 y0 w ht).regs with done := d }) (if_pos hzero)

/-- DEC_RECORD from its start on as many payload bytes as there are, up to PAY_LEN (R148, R152). -/
theorem runs_decRecord {s : State} {x0 y0 w ht : Half} {v : Window} {payload : List Byte} {rest : List Token}
    (hempty : s.host.agenda = []) (hv : v = scanWindow s.extentMode x0 y0 w ht)
    (hlen : payload.length ≤ bytesPerRow v * windowRows v)
    (hbin : s.io.bin = asTokens (geometryBytes x0 y0 w ht ++ payload) ++ rest) (ie : Bool) :
    ∃ t, Runs (8 + payload.length) (s.started ie .decGeom) t
      ∧ ScannedTo (ByteAt v) (bytesPerRow v * windowRows v) payload.length
          { s.io with bin := rest, pout := s.io.pout ++ writesOfPayload v.xs v.ys (bytesPerRow v) payload }
          (s.recordLoaded ie x0 y0 w ht) t := by
  rw [asTokens, List.map_append, List.append_assoc] at hbin
  obtain ⟨u, hrun, hto⟩ := runs_decGeom hempty hv hbin ie
  rcases Nat.eq_zero_or_pos (bytesPerRow v * windowRows v) with hnone | hsome
  · obtain rfl : payload = [] := List.eq_nil_of_length_eq_zero (by omega)
    refine ⟨u, hrun, ?_⟩
    rw [show writesOfPayload v.xs v.ys (bytesPerRow v) [] = [] from rfl, List.append_nil]
    exact hto
  · obtain ⟨hat, -⟩ := hto.inside hsome
    obtain ⟨t, hrun', hto'⟩ := decodes_bytes (hv ▸ scanWindow_inRange ..) hat hsome (by rw [hto.host_eq]; exact hempty)
      (by rw [hto.io_eq]; rfl) (by rw [Nat.zero_add]; exact hlen)
    rw [hto.io_eq, Nat.zero_add] at hto'
    exact ⟨t, hrun.trans hrun', hto.trans hsome hto'⟩

/-- Settles O34: with the whole payload there the chain ends at the last byte of the window. -/
theorem decRecordPaintsItsWindow : Obligations.DecRecordPaintsItsWindow := by
  intro s ie x0 y0 w ht v payload rest hidle hempty hv hlen hbin
  have hexact : payload.length = bytesPerRow v * windowRows v := by rw [hlen, hv, payLenOf_toNat]
  obtain ⟨t, hrun, hto⟩ := runs_decRecord hempty hv (Nat.le_of_eq hexact) hbin ie
  obtain ⟨hfsm, hregs⟩ := hto.ended hexact
  refine ⟨_, t, (multiStepCommandsStart s ie hidle).2.2, hrun, ?_, hfsm, hto.io_eq, hto.host_eq, hto.extentMode_eq⟩
  rw [hregs, hv]
  rfl

/-- Settles O37: with less than the payload there the chain stops inside the window, and `End` fails the command. -/
theorem decRecordTruncatedInPayload : Obligations.DecRecordTruncatedInPayload := by
  intro s ie x0 y0 w ht v payload rest hidle hempty hv hlen hbin
  have hshort : payload.length < bytesPerRow v * windowRows v := by
    rw [hv, payLenOf_toNat] at hlen
    rw [hv]
    exact hlen
  obtain ⟨t, hrun, hto⟩ := runs_decRecord hempty hv (Nat.le_of_lt hshort) hbin ie
  obtain ⟨hat, hregs⟩ := hto.inside hshort
  have hend := endTokenTruncates t rest (.inr hat.fsm) (by rw [hto.io_eq])
  have hagenda : t.host.agenda = [] := by rw [hto.host_eq]; exact hempty
  refine ⟨_, _, (multiStepCommandsStart s ie hidle).2.2, hrun.snoc hagenda hend, ?_, rfl, ?_, hto.host_eq,
    hto.extentMode_eq⟩
  · dsimp only
    rw [hregs, hv]
    rfl
  · dsimp only
    rw [hto.io_eq]

end Sys2Proof.Machine
end


section
/-! What a record paints: the places and values of its pixel writes, the HOST's canvas after them, and the record round trip
between two blocks (spec/41_sub_image_framer.md section 3). -/

namespace Sys2Proof.Machine

/-! ### The canvas -/

/-- Before any write the canvas is the pre-fill (R255). -/
theorem canvasAt_nil (x y : Coord) : canvasAt [] x y = 255 := rfl

/-- The last write decides its own place and no other (R155). -/
theorem canvasAt_concat (ws : List PixelWrite) (p : PixelWrite) (x y : Coord) :
    canvasAt (ws ++ [p]) x y = if x = p.x ∧ y = p.y then p.v else canvasAt ws x y := by
  rw [canvasAt, List.reverse_append, List.reverse_singleton, List.singleton_append, List.find?_cons]
  by_cases hat : x = p.x ∧ y = p.y
  · obtain ⟨rfl, rfl⟩ := hat
    simp
  · have hne : (p.x == x && p.y == y) = false := by
      rw [Bool.eq_false_iff, ne_eq, Bool.and_eq_true, beq_iff_eq, beq_iff_eq]
      exact fun ⟨hx, hy⟩ => hat ⟨hx.symm, hy.symm⟩
    rw [hne, if_neg hat]
    rfl

/-- Writes elsewhere leave a place as it was. -/
theorem canvasAt_append_of_not_mem {ws more : List PixelWrite} {x y : Coord}
    (hmore : ∀ p ∈ more, ¬(p.x = x ∧ p.y = y)) : canvasAt (ws ++ more) x y = canvasAt ws x y := by
  induction more using List.reverseRecOn with
  | nil => rw [List.append_nil]
  | append_singleton more p ih =>
    have hp : ¬(x = p.x ∧ y = p.y) := fun ⟨hx, hy⟩ => hmore p (by simp) ⟨hx.symm, hy.symm⟩
    rw [← List.append_assoc, canvasAt_concat, if_neg hp]
    exact ih fun q hq => hmore q (List.mem_append_left _ hq)

/-- A place that is written, and always with one value, has that value. -/
theorem canvasAt_append_of_mem {ws more : List PixelWrite} {p : PixelWrite} (hp : p ∈ more)
    (hsame : ∀ q ∈ more, q.x = p.x → q.y = p.y → q.v = p.v) : canvasAt (ws ++ more) p.x p.y = p.v := by
  induction more using List.reverseRecOn with
  | nil => cases hp
  | append_singleton more q ih =>
    rw [← List.append_assoc, canvasAt_concat]
    by_cases hq : p.x = q.x ∧ p.y = q.y
    · rw [if_pos hq]
      exact hsame q (by simp) hq.1.symm hq.2.symm
    · rw [if_neg hq]
      refine ih ?_ fun r hr => hsame r (List.mem_append_left _ hr)
      rcases List.mem_append.mp hp with hmore | hlast
      · exact hmore
      · exact absurd (by rw [List.mem_singleton.mp hlast]; exact ⟨rfl, rfl⟩) hq

/-- Two writes at the end decide their two places, the later one first. -/
theorem canvasAt_append_pair (ws : List PixelWrite) (p q : PixelWrite) (x y : Coord) :
    canvasAt (ws ++ [p, q]) x y
      = if x = q.x ∧ y = q.y then q.v else if x = p.x ∧ y = p.y then p.v else canvasAt ws x y := by
  rw [show ws ++ [p, q] = ws ++ [p] ++ [q] by simp, canvasAt_concat, canvasAt_concat]

/-! ### The places of a payload's writes -/

/-- The value of a payload byte's pixel: the high nibble for the right one, the low nibble for the left one (R152, R183). -/
def sideValue (b : Byte) (right : Bool) : Byte :=
  if right then b.extractLsb' 4 4 ++ 0#4 else b.extractLsb' 0 4 ++ 0#4

/-- A pixel write is its place, in numbers, and its value. -/
theorem pixelWrite_eq_iff {q : PixelWrite} {x y : Coord} {b : Byte} :
    q = { x := x, y := y, v := b } ↔ q.x.toNat = x.toNat ∧ q.y.toNat = y.toNat ∧ q.v = b := by
  cases q
  rw [PixelWrite.mk.injEq, BitVec.toNat_eq, BitVec.toNat_eq]

/-- The two writes of payload byte `k` stand at two neighbouring columns of the window, where no coordinate wraps. -/
theorem mem_writesOfByte_iff {v : Window} {k : Nat} {b : Byte} {q : PixelWrite} (hv : v.InRange)
    (hk : k < bytesPerRow v * windowRows v) :
    q ∈ writesOfByte v.xs v.ys (bytesPerRow v) k b
      ↔ ∃ right : Bool, q.x.toNat = v.xs.toNat + 2 * (k % bytesPerRow v) + right.toNat
        ∧ q.y.toNat = v.ys.toNat + k / bytesPerRow v ∧ q.v = sideValue b right := by
  obtain ⟨hn, hcol, hrow⟩ := rowMajor_bounds hk
  obtain ⟨hxs, hys, hxe, hye⟩ := hv
  have hbpr := bytesPerRow_eq v
  have hrows := windowRows_eq v
  have hx : (v.xs + BitVec.ofNat 17 (2 * (k % bytesPerRow v))).toNat = v.xs.toNat + 2 * (k % bytesPerRow v) := by
    rw [BitVec.toNat_add, BitVec.toNat_ofNat, Nat.add_mod_mod, Nat.mod_eq_of_lt (by omega)]
  have hx1 : (v.xs + BitVec.ofNat 17 (2 * (k % bytesPerRow v)) + 1).toNat
      = v.xs.toNat + 2 * (k % bytesPerRow v) + 1 := by
    bv_omega
  have hy : (v.ys + BitVec.ofNat 17 (k / bytesPerRow v)).toNat = v.ys.toNat + k / bytesPerRow v := by
    rw [BitVec.toNat_add, BitVec.toNat_ofNat, Nat.add_mod_mod, Nat.mod_eq_of_lt (by omega)]
  rw [writesOfByte, List.mem_cons, List.mem_singleton, Bool.exists_bool]
  refine or_congr ?_ ?_
  · rw [pixelWrite_eq_iff, hx, hy]
    rfl
  · rw [pixelWrite_eq_iff, hx1, hy]
    rfl

/-- A write of a payload is one of the two of some payload byte. -/
theorem mem_writesOfPayload_iff {xs ys : Coord} {n : Nat} {bs : List Byte} {q : PixelWrite} :
    q ∈ writesOfPayload xs ys n bs ↔ ∃ k b, bs[k]? = some b ∧ q ∈ writesOfByte xs ys n k b := by
  rw [writesOfPayload, List.mem_flatten]
  constructor
  · rintro ⟨ws, hws, hq⟩
    obtain ⟨⟨b, k⟩, hat, rfl⟩ := List.mem_map.mp hws
    exact ⟨k, b, List.mk_mem_zipIdx_iff_getElem?.mp hat, hq⟩
  · rintro ⟨k, b, hat, hq⟩
    exact ⟨_, List.mem_map.mpr ⟨(b, k), List.mk_mem_zipIdx_iff_getElem?.mpr hat, rfl⟩, hq⟩

/-- A whole payload's writes by place: the left and the right pixel of each byte, at its columns and its row. -/
theorem mem_writesOfPayload_window {v : Window} {bs : List Byte} {q : PixelWrite} (hv : v.InRange)
    (hlen : bs.length = bytesPerRow v * windowRows v) :
    q ∈ writesOfPayload v.xs v.ys (bytesPerRow v) bs
      ↔ ∃ k b, bs[k]? = some b ∧ ∃ right : Bool, q.x.toNat = v.xs.toNat + 2 * (k % bytesPerRow v) + right.toNat
        ∧ q.y.toNat = v.ys.toNat + k / bytesPerRow v ∧ q.v = sideValue b right := by
  rw [mem_writesOfPayload_iff]
  refine exists_congr fun k => exists_congr fun b => and_congr_right fun hat => mem_writesOfByte_iff hv ?_
  obtain ⟨hk, -⟩ := List.getElem?_eq_some_iff.mp hat
  rwa [hlen] at hk

/-- Columns and rows name a payload byte and its side: no two bytes share a pixel. -/
theorem byte_and_side_of_place {n k k' : Nat} {right right' : Bool}
    (hcol : 2 * (k % n) + right.toNat = 2 * (k' % n) + right'.toNat) (hrow : k / n = k' / n) :
    k = k' ∧ right = right' := by
  have hr := right.toNat_lt
  have hr' := right'.toNat_lt
  have hmod : k % n = k' % n := by omega
  have hside : right.toNat = right'.toNat := by omega
  refine ⟨?_, by rw [Bool.eq_iff_iff, ← Bool.toNat_eq_one, ← Bool.toNat_eq_one, hside]⟩
  rw [← Nat.div_add_mod k n, ← Nat.div_add_mod k' n, hmod, hrow]

/-- Each pixel of a whole payload, on the canvas: nothing else of the payload is written there. -/
theorem canvasAt_writesOfPayload {v : Window} {bs : List Byte} {ws : List PixelWrite} {k : Nat} {b : Byte} {right : Bool}
    {x y : Coord} (hv : v.InRange) (hlen : bs.length = bytesPerRow v * windowRows v) (hat : bs[k]? = some b)
    (hx : x.toNat = v.xs.toNat + 2 * (k % bytesPerRow v) + right.toNat)
    (hy : y.toNat = v.ys.toNat + k / bytesPerRow v) :
    canvasAt (ws ++ writesOfPayload v.xs v.ys (bytesPerRow v) bs) x y = sideValue b right := by
  have hmem := (mem_writesOfPayload_window (q := ⟨x, y, sideValue b right⟩) hv hlen).mpr ⟨k, b, hat, right, hx, hy, rfl⟩
  refine canvasAt_append_of_mem hmem fun q hq hqx hqy => ?_
  obtain ⟨k', b', hat', right', hx', hy', hval⟩ := (mem_writesOfPayload_window hv hlen).mp hq
  rw [hqx, hx] at hx'
  rw [hqy, hy] at hy'
  obtain ⟨rfl, rfl⟩ := byte_and_side_of_place (n := bytesPerRow v) (k := k) (k' := k') (right := right) (right' := right')
    (by omega) (by omega)
  obtain rfl : b = b' := Option.some.inj (hat.symm.trans hat')
  exact hval

/-- A payload leaves the canvas as it was outside its window and the pad column (R155). -/
theorem canvasAt_outside_payload {v : Window} {bs : List Byte} {ws : List PixelWrite} {x y : Coord} (hv : v.InRange)
    (hlen : bs.length = bytesPerRow v * windowRows v)
    (hout : ¬(v.xs.toNat ≤ x.toNat ∧ x.toNat < v.xs.toNat + 2 * bytesPerRow v
      ∧ v.ys.toNat ≤ y.toNat ∧ y.toNat < v.ye.toNat)) :
    canvasAt (ws ++ writesOfPayload v.xs v.ys (bytesPerRow v) bs) x y = canvasAt ws x y := by
  refine canvasAt_append_of_not_mem fun q hq ⟨hqx, hqy⟩ => hout ?_
  obtain ⟨k, b, hat, right, hx, hy, -⟩ := (mem_writesOfPayload_window hv hlen).mp hq
  obtain ⟨hk, -⟩ := List.getElem?_eq_some_iff.mp hat
  obtain ⟨-, hcol, hrow⟩ := rowMajor_bounds (hlen ▸ hk)
  have hright := right.toNat_lt
  have hrows := windowRows_eq v
  rw [hqx] at hx
  rw [hqy] at hy
  generalize k / bytesPerRow v = row at hrow hy
  omega

/-! ### What changes the canvas -/

/-- A step that changes the canvas is a DEC_PIX step of the BLOCK, and the place is one of its two pixels. -/
theorem StepMove.canvas {s t : State} {x y : Coord} (h : StepMove s t)
    (hchanged : canvasAt t.io.pout x y ≠ canvasAt s.io.pout x y) :
    s.blockNext = true ∧ s.h.fsm = .decPix ∧ (x = s.h.dx ∨ x = s.h.dx + 1) ∧ y = s.h.dy := by
  cases h with
  | pass l => exact absurd rfl hchanged
  | host a rest hturn hmove => exact absurd (by rw [hmove.outputs.2.1]; rfl) hchanged
  | block l hturn hmove =>
    rcases hmove.pout with hsame | ⟨hfsm, vl, vr, hpout⟩
    · exact absurd (by rw [hsame]; rfl) hchanged
    · refine ⟨hturn, hfsm, ?_⟩
      rw [hpout, canvasAt_append_pair] at hchanged
      by_cases hright : x = s.h.dx + 1 ∧ y = s.h.dy
      · exact ⟨.inr hright.1, hright.2⟩
      by_cases hleft : x = s.h.dx ∧ y = s.h.dy
      · exact ⟨.inl hleft.1, hleft.2⟩
      exact absurd (by exact (if_neg hright).trans (if_neg hleft)) hchanged

/-- A whole record sets each pixel of its window and of its pad column, and keeps every other one (R155). -/
theorem canvas_of_decRecord (s : State) (ie : Bool) (x0 y0 w ht : Half) (v : Window) (payload : List Byte)
    (rest : List Token) (hidle : s.h.fsm = .idle) (hempty : s.host.agenda = [])
    (hv : v = scanWindow s.extentMode x0 y0 w ht) (hlen : payload.length = (payLenOf v).toNat)
    (hbin : s.io.bin = asTokens (geometryBytes x0 y0 w ht ++ payload) ++ rest) :
    ∃ a t, exec (.decRecord ie) s = .next a ∧ Host.Core.run Sys2Proof.core (8 + payload.length) a = .next t
      ∧ (∀ (k : Nat) (b : Byte), payload[k]? = some b → ∀ x y : Coord,
          x.toNat = v.xs.toNat + 2 * (k % bytesPerRow v) → y.toNat = v.ys.toNat + k / bytesPerRow v →
            canvasAt t.io.pout x y = b.extractLsb' 0 4 ++ 0#4
              ∧ canvasAt t.io.pout (x + 1) y = b.extractLsb' 4 4 ++ 0#4)
      ∧ ∀ x y : Coord,
        ¬(v.xs.toNat ≤ x.toNat ∧ x.toNat < v.xs.toNat + 2 * bytesPerRow v
          ∧ v.ys.toNat ≤ y.toNat ∧ y.toNat < v.ye.toNat) →
          canvasAt t.io.pout x y = canvasAt s.io.pout x y := by
  obtain ⟨a, t, hexec, hrun, -, -, hio, -, -⟩ :=
    decRecordPaintsItsWindow s ie x0 y0 w ht v payload rest hidle hempty hv hlen hbin
  have hrange : v.InRange := hv ▸ scanWindow_inRange ..
  have hexact : payload.length = bytesPerRow v * windowRows v := by rw [hlen, hv, payLenOf_toNat]
  refine ⟨a, t, hexec, hrun, fun k b hat x y hx hy => ?_, fun x y hout => ?_⟩
  · have hx1 : (x + 1).toNat = v.xs.toNat + 2 * (k % bytesPerRow v) + 1 := by
      obtain ⟨hk, -⟩ := List.getElem?_eq_some_iff.mp hat
      obtain ⟨-, hcol, -⟩ := rowMajor_bounds (hexact ▸ hk)
      have hbpr := bytesPerRow_eq v
      obtain ⟨hxs, -, hxe, -⟩ := hrange
      bv_omega
    rw [hio]
    exact ⟨canvasAt_writesOfPayload (right := false) hrange hexact hat hx hy,
      canvasAt_writesOfPayload (right := true) hrange hexact hat hx1 hy⟩
  · rw [hio]
    exact canvasAt_outside_payload hrange hexact hout

/-- Settles O58: a step's two writes come last in POUT, and a record's writes are at places of their own. -/
theorem laterWriteWinsOnTheCanvas : Obligations.LaterWriteWinsOnTheCanvas := by
  refine ⟨fun s t b rest x y hfsm hbin hstep => ?_, fun s t x y hstep => (stepMove_of_step hstep).canvas,
    canvas_of_decRecord, fun s x y hnone => ?_⟩
  · rw [eq_of_blockStep (decPixByteStep s b rest hfsm hbin) hstep]
    exact canvasAt_append_pair ..
  · have hkeep := canvasAt_append_of_not_mem (ws := []) hnone
    rwa [List.nil_append, canvasAt_nil] at hkeep

end Sys2Proof.Machine
end


section
/-! The record round trip: the payload of one block's ENC_RECORD paints, in another block's DEC_RECORD, the source image with
the low nibbles cleared (spec/41_sub_image_framer.md section 3). -/

namespace Sys2Proof.Machine

/-! ### The painted image -/

/-- The write that paints a sample with its number in a `w`-wide image at `(x0, y0)` (R156). -/
def paintedPixel (x0 y0 w : Half) (p : Byte × Nat) : PixelWrite :=
  { x := x0.setWidth 17 + BitVec.ofNat 17 (p.2 % w.toNat)
    y := y0.setWidth 17 + BitVec.ofNat 17 (p.2 / w.toNat)
    v := p.1 &&& 0xF0#8 }

/-- A painted image is its samples painted one after the other. -/
theorem paintedImage_eq (x0 y0 w : Half) (samples : List Byte) :
    paintedImage x0 y0 w samples = samples.zipIdx.map (paintedPixel x0 y0 w) := rfl

/-- Offsets that fit in a coordinate are told apart by where they lead. -/
theorem coord_offset_inj {c : Coord} {m n : Nat} (hm : m < 2 ^ 17) (hn : n < 2 ^ 17)
    (heq : c + BitVec.ofNat 17 m = c + BitVec.ofNat 17 n) : m = n := by
  have htoNat := congrArg BitVec.toNat ((BitVec.add_right_inj c).mp heq)
  rwa [BitVec.toNat_ofNat, BitVec.toNat_ofNat, Nat.mod_eq_of_lt hm, Nat.mod_eq_of_lt hn] at htoNat

/-- The painted pixels of numbers inside the image stand at different places: neither coordinate wraps. -/
theorem paintedPixel_place_inj {x0 y0 w : Half} {rows i j : Nat} {p q : Byte} (hrows : rows ≤ 540)
    (hi : i < w.toNat * rows) (hj : j < w.toNat * rows)
    (hx : (paintedPixel x0 y0 w (p, i)).x = (paintedPixel x0 y0 w (q, j)).x)
    (hy : (paintedPixel x0 y0 w (p, i)).y = (paintedPixel x0 y0 w (q, j)).y) : i = j := by
  have hw := w.isLt
  obtain ⟨-, hicol, hirow⟩ := rowMajor_bounds hi
  obtain ⟨-, hjcol, hjrow⟩ := rowMajor_bounds hj
  have hcol : i % w.toNat = j % w.toNat := coord_offset_inj (by omega) (by omega) hx
  have hrow : i / w.toNat = j / w.toNat := coord_offset_inj (by omega) (by omega) hy
  rw [← Nat.div_add_mod i w.toNat, ← Nat.div_add_mod j w.toNat, hcol, hrow]

/-- A painted image paints each of its pixels once. -/
theorem paintedImage_nodup {x0 y0 w : Half} {rows : Nat} {samples : List Byte} (hrows : rows ≤ 540)
    (hlen : samples.length = w.toNat * rows) :
    ((paintedImage x0 y0 w samples).map fun q => (q.x, q.y)).Nodup := by
  rw [paintedImage_eq, List.map_map]
  have hnumbers : (samples.zipIdx.map Prod.snd).Nodup := by
    rw [List.zipIdx_map_snd]
    exact List.nodup_range'
  refine List.Nodup.map_on (fun ⟨p, i⟩ hp ⟨q, j⟩ hq hplace => ?_) hnumbers.of_map
  obtain ⟨hi, hpi⟩ := List.getElem?_eq_some_iff.mp (List.mk_mem_zipIdx_iff_getElem?.mp hp)
  obtain ⟨hj, hqj⟩ := List.getElem?_eq_some_iff.mp (List.mk_mem_zipIdx_iff_getElem?.mp hq)
  obtain ⟨hx, hy⟩ := Prod.mk.inj hplace
  obtain rfl := paintedPixel_place_inj hrows (hlen ▸ hi) (hlen ▸ hj) hx hy
  rw [← hpi, ← hqj]

/-- A sample that is a multiple of 16 has no low nibble to clear. -/
theorem clear_low_nibble_of_dvd : ∀ p : Byte, p.toNat % 16 = 0 → p &&& 0xF0#8 = p := by decide

/-- An image whose samples are multiples of 16 is painted exactly (R156). -/
theorem paintedImage_values {x0 y0 w : Half} {samples : List Byte} (hexact : ∀ p ∈ samples, p.toNat % 16 = 0) :
    (paintedImage x0 y0 w samples).map (·.v) = samples := by
  rw [paintedImage_eq, List.map_map]
  calc samples.zipIdx.map ((·.v) ∘ paintedPixel x0 y0 w)
      = samples.zipIdx.map Prod.fst :=
        List.map_congr_left fun ⟨p, _⟩ hp => clear_low_nibble_of_dvd p (hexact p (List.fst_mem_of_mem_zipIdx hp))
    _ = samples := List.zipIdx_map_fst 0 samples

/-! ### The payload of the image -/

/-- A payload has one byte for each pair of samples (R146). -/
theorem payloadBytes_length (samples : List Byte) : (payloadBytes samples).length = samples.length / 2 := by
  induction samples using payloadBytes.induct with
  | case1 l r rest ih =>
    rw [payloadBytes, List.length_cons, ih, List.length_cons, List.length_cons]
    omega
  | case2 samples hshort =>
    match samples, hshort with
    | [], _ => rfl
    | [p], _ =>
      rw [payloadBytes_singleton, List.length_singleton]
      rfl
    | l :: r :: rest, hshort => exact absurd rfl (hshort l r rest)

/-- The two writes of the byte of a pair of samples are the painted pixels of the two (R96, R152). -/
theorem writesOfByte_payloadByte {x0 y0 w : Half} {n : Nat} (hw : w.toNat = 2 * n) (k : Nat) (l r : Byte) :
    writesOfByte (x0.setWidth 17) (y0.setWidth 17) n k (payloadByte l r)
      = [paintedPixel x0 y0 w (l, 2 * k), paintedPixel x0 y0 w (r, 2 * k + 1)] := by
  have hcol : 2 * k % (2 * n) = 2 * (k % n) := Nat.mul_mod_mul_left 2 k n
  have hrow : 2 * k / (2 * n) = k / n := Nat.mul_div_mul_left k n (by decide)
  have hcol1 : (2 * k + 1) % (2 * n) = 2 * (k % n) + 1 := by
    rw [Nat.mod_mul, show (2 * k + 1) / 2 = k by omega]
    omega
  have hrow1 : (2 * k + 1) / (2 * n) = k / n := by
    rw [← Nat.div_div_eq_div_mul, show (2 * k + 1) / 2 = k by omega]
  simp only [writesOfByte, paintedPixel, payloadByte_low, payloadByte_high, hw, hcol, hrow, hcol1, hrow1,
    BitVec.add_assoc, ofNat_add_one]

/-- The writes of a payload from byte `k` on are the painted pixels of its samples from number `2k` on. -/
theorem writes_of_payloadBytes {x0 y0 w : Half} {n : Nat} (hw : w.toNat = 2 * n) {samples : List Byte} (k : Nat)
    (heven : samples.length % 2 = 0) :
    (((payloadBytes samples).zipIdx k).map fun p => writesOfByte (x0.setWidth 17) (y0.setWidth 17) n p.2 p.1).flatten
      = (samples.zipIdx (2 * k)).map (paintedPixel x0 y0 w) := by
  induction samples using payloadBytes.induct generalizing k with
  | case1 l r rest ih =>
    rw [List.length_cons, List.length_cons] at heven
    rw [payloadBytes, List.zipIdx_cons, List.map_cons, List.flatten_cons, writesOfByte_payloadByte hw,
      ih (k + 1) (by omega)]
    rfl
  | case2 samples hshort =>
    match samples, hshort with
    | [], _ => rfl
    | [_], _ => exact absurd heven Nat.one_ne_zero
    | l :: r :: rest, hshort => exact absurd rfl (hshort l r rest)

/-- The payload of an image paints the image. -/
theorem writesOfPayload_payloadBytes {x0 y0 w : Half} {n : Nat} {samples : List Byte} (hw : w.toNat = 2 * n)
    (heven : samples.length % 2 = 0) :
    writesOfPayload (x0.setWidth 17) (y0.setWidth 17) n (payloadBytes samples) = paintedImage x0 y0 w samples :=
  writes_of_payloadBytes hw 0 heven

/-! ### The round trip -/

/-- Under SIZE, and under ABSOLUTE at the origin, a record's window is its image (R150, R156). -/
theorem scanWindow_eq_size {m : ExtentMode} {x0 y0 : Half} (hmode : m = .size ∨ (x0 = 0 ∧ y0 = 0)) (w ht : Half) :
    scanWindow m x0 y0 w ht = scanWindow .size x0 y0 w ht := by
  rcases hmode with rfl | ⟨rfl, rfl⟩
  · rfl
  · exact scanWindow_origin m w ht

/-- DEC_RECORD on the descriptor and the payload of an image of even width paints the image. -/
theorem decRecord_paints_image {r : State} {x0 y0 w ht : Half} {samples : List Byte} {rest : List Token}
    (hidle : r.h.fsm = .idle) (hempty : r.host.agenda = []) (hmode : r.extentMode = .size ∨ (x0 = 0 ∧ y0 = 0))
    (heven : w.toNat % 2 = 0) (hlen : samples.length = w.toNat * ht.toNat)
    (hbin : r.io.bin = asTokens (geometryBytes x0 y0 w ht ++ payloadBytes samples) ++ rest) (ie : Bool) :
    ∃ c t, exec (.decRecord ie) r = .next c ∧ Host.Core.run Sys2Proof.core (8 + w.toNat / 2 * ht.toNat) c = .next t
      ∧ t.h.fsm = .idle ∧ t.regs.done = true ∧ t.io.bin = rest
      ∧ t.io.pout = r.io.pout ++ paintedImage x0 y0 w samples := by
  have hwidth : w.toNat = 2 * (w.toNat / 2) := by omega
  have hpairs : samples.length = 2 * (w.toNat / 2 * ht.toNat) := by rw [hlen, ← Nat.mul_assoc, ← hwidth]
  have hhalf : (w.toNat + 1) / 2 = w.toNat / 2 := by omega
  have hpayload : (payloadBytes samples).length = w.toNat / 2 * ht.toNat := by
    rw [payloadBytes_length, hpairs, Nat.mul_div_cancel_left _ (by decide)]
  have hwindow := scanWindow_eq_size hmode w ht
  obtain ⟨c, t, hexec, hrun, hregs, hfsm, hio, -, -⟩ := decRecordPaintsItsWindow r ie x0 y0 w ht
    (scanWindow .size x0 y0 w ht) (payloadBytes samples) rest hidle hempty hwindow.symm
    (by rw [hpayload, payLenOf_size, hhalf]) hbin
  rw [hpayload] at hrun
  refine ⟨c, t, hexec, hrun, hfsm, by rw [hregs], by rw [hio], ?_⟩
  rw [hio, bytesPerRow_size, hhalf]
  exact congrArg (r.io.pout ++ ·) (writesOfPayload_payloadBytes hwidth (by omega))

/-- Settles O38: what ENC_RECORD emitted is the descriptor and the payload of the samples, and DEC_RECORD paints those. -/
theorem recordRoundTrip : Obligations.RecordRoundTrip := by
  intro s r a e ie ie' samples rest rest' hidle hempty hw hht heven hlen hpin hexec hrun hidle' hempty' hmode hbin
  obtain ⟨a', e', hexec', hrun', -, -, -, hio, -, -⟩ :=
    encRecordEmitsDescriptorAndPayload s ie samples rest hidle hempty hw hht heven hlen hpin
  cases hexec.symm.trans hexec'
  obtain rfl := Runs.unique hrun hrun'
  rw [hio, List.append_assoc, List.drop_left] at hbin
  obtain ⟨c, t, hexec, hrun, hfsm, hdone, hbin, hpout⟩ :=
    decRecord_paints_image hidle' hempty' hmode heven hlen hbin ie'
  exact ⟨c, t, hexec, hrun, hfsm, hdone, hbin, hpout, paintedImage_nodup hht hlen, paintedImage_values⟩

end Sys2Proof.Machine
end
